-- ==== Sys2Proof/Word.lean ====
section
/-! DEFINITION. The two word types of the machine (R11, R13, R30, R33).  Everything done to their
bits stands in Machine/Bits.lean. -/

namespace Sys2Proof

/-- A byte, 8 bits: every CPU register but PC, and every bus datum (R11, R90). -/
abbrev Byte := BitVec 8

/-- A word, 16 bits: PC and every address the CPU issues (R11, R33, R70). -/
abbrev Word := BitVec 16

end Sys2Proof
end

