-- ==== Sys2Proof/Config.lean ====
section
/-! DEFINITION. The implementation parameters (R9, R10): what is fixed for one machine and what the
spec leaves open.  The parameters are plain data and stand in the field `cfg` of State, which no step
writes, so a statement about every state is a statement about every value of every parameter.  The
values that nothing fixes even then (open bus, the drawn upper nibble) are opaque constants: nothing can be proved of their values. -/

namespace Sys2Proof

/-- The closed set of chip kinds (R75). -/
inductive ChipKind where
  | ram | nibbleRam | rom | unconnected | vic | pia
deriving DecidableEq, Repr

/-- One range of `BUS_MAP`: a chip and the bus addresses `base .. base + size - 1` it owns (R72, R74). -/
structure Region where
  base : Nat
  size : Nat
  chip : ChipKind
deriving DecidableEq, Repr

/-- `ILLEGAL_OPCODE_POLICY` (R128, R613). -/
inductive IllegalPolicy where
  | fault | nop2
deriving DecidableEq, Repr

/-- `NIBBLE_UPPER` (R78). -/
inductive NibbleUpper where
  | zero | draw
deriving DecidableEq, Repr

/-- `ROW_ADVANCE_POLICY` (R425). -/
inductive RowAdvance where
  | inWindow | everyLine
deriving DecidableEq, Repr

/-- `RESET_CYCLES`: 0 or 7 (R703). -/
inductive ResetCycles where
  | none | seven
deriving DecidableEq, Repr

/-- The five buttons (R480). -/
inductive Button where
  | fire | coin | left | right | start
deriving DecidableEq, Repr

/-- `BUTTON_BIT`: the bit of the joystick signal of each button (R481). -/
structure ButtonBits where
  fire  : Fin 8
  coin  : Fin 8
  left  : Fin 8
  right : Fin 8
  start : Fin 8
deriving DecidableEq, Repr

/-- A timing profile (R436, R525).  The raster engine reads only `width`, `height` and `vblank`; the
rest is reported by the geometry query (`State.geometry`).  `fpsTenths` is the frame rate in tenths of a frame a second,
the precision R436 gives. -/
structure Profile where
  width         : Nat
  height        : Nat
  vblank        : Nat
  visibleWidth  : Nat
  visibleHeight : Nat
  hOffset       : Nat
  vOffset       : Nat
  fpsTenths     : Nat
  cycleRate     : Nat
deriving DecidableEq, Repr

/-- The numbers R436 leaves OPEN for the two named profiles. -/
structure OpenGeometry where
  vblank        : Nat
  visibleWidth  : Nat
  visibleHeight : Nat
  hOffset       : Nat
  vOffset       : Nat
deriving DecidableEq, Repr

/-- The NTSC (6560) profile of R436; its OPEN numbers are an argument. -/
def Profile.ntsc (o : OpenGeometry) : Profile :=
  { width := 260, height := 261, vblank := o.vblank, visibleWidth := o.visibleWidth
    visibleHeight := o.visibleHeight, hOffset := o.hOffset, vOffset := o.vOffset
    fpsTenths := 603, cycleRate := 1022727 }

/-- The PAL (6561) profile of R436; its OPEN numbers are an argument. -/
def Profile.pal (o : OpenGeometry) : Profile :=
  { width := 284, height := 312, vblank := o.vblank, visibleWidth := o.visibleWidth
    visibleHeight := o.visibleHeight, hOffset := o.hOffset, vOffset := o.vOffset
    fpsTenths := 500, cycleRate := 1108405 }

/-- The spec's own TEST profile (R436).  The numbers R436 marks "—" are read by no step; here the
visible area is the total one and the rates are 0. DESIGN CHOICE (log entry 4), unsafe. -/
def Profile.test : Profile :=
  { width := 32, height := 6, vblank := 1, visibleWidth := 32, visibleHeight := 6
    hOffset := 0, vOffset := 0, fpsTenths := 0, cycleRate := 0 }

/-- The parameters of R9 but for `PROFILE` (a field of State, R47), `ROM_IMAGES` (the memory's ROM
cells, R40) and `OPEN_BUS` (an opaque constant below).  `palette` is `PALETTE`, the packed colour of each
palette index (R434, R511); the source gives no format for a packed colour, so it is a number.
DESIGN CHOICE (log entry 20). -/
structure Config where
  busMap        : List Region
  videoBase     : Vector Word 16
  charBase      : Vector Word 16
  colourBase    : Word
  borderFetch   : Word
  dipSwitches   : BitVec 7
  buttonBit     : ButtonBits
  resetSp       : Byte
  resetCycles   : ResetCycles
  illegalPolicy : IllegalPolicy
  nibbleUpper   : NibbleUpper
  rowAdvance    : RowAdvance
  vicRegInit    : Vector Byte 16
  palette       : Vector Nat 16
deriving DecidableEq, Repr

/-- The reference `BUS_MAP` of R84. -/
def Config.referenceMap : List Region :=
  [ ⟨0x0000, 0x1000, .ram⟩, ⟨0x1000, 0x0010, .vic⟩, ⟨0x1010, 0x03F0, .unconnected⟩,
    ⟨0x1400, 0x0004, .pia⟩, ⟨0x1404, 0x07FC, .unconnected⟩, ⟨0x1C00, 0x0400, .nibbleRam⟩,
    ⟨0x2000, 0x2000, .rom⟩ ]

/-- The reference base table, entry n being `n * 0x400` (R9, R417). -/
def Config.referenceBases : Vector Word 16 :=
  #v[0x0000#16, 0x0400#16, 0x0800#16, 0x0C00#16, 0x1000#16, 0x1400#16, 0x1800#16, 0x1C00#16,
     0x2000#16, 0x2400#16, 0x2800#16, 0x2C00#16, 0x3000#16, 0x3400#16, 0x3800#16, 0x3C00#16]

/-- The parameter values of the machine `State.reset` describes: the reference values of R9 and, for
the parameters that have none, those of the test configuration of 95_test_vectors.md section 2
(`BORDER_FETCH_ADDR` 0x3FFF, `DIP_SWITCHES` 0x55, `BUTTON_BIT` of R481).  `PALETTE`, open there too, numbers
each colour by its index.
DESIGN CHOICE (log entry 3), unsafe. -/
def Config.reference : Config :=
  { busMap := Config.referenceMap
    videoBase := Config.referenceBases
    charBase := Config.referenceBases
    colourBase := 0x1C00#16
    borderFetch := 0x3FFF#16
    dipSwitches := 0x55#7
    buttonBit := { fire := 0, left := 1, right := 2, start := 3, coin := 7 }
    resetSp := 0xFD#8
    resetCycles := .none
    illegalPolicy := .fault
    nibbleUpper := .zero
    rowAdvance := .inWindow
    vicRegInit := Vector.replicate 16 0#8
    palette := #v[0, 1, 2, 3, 4, 5, 6, 7, 8, 9, 10, 11, 12, 13, 14, 15] }

/-- `OPEN_BUS`: the byte the n-th draw of the run gives to a read of unconnected space (R80). -/
opaque Config.openBus : Nat → Byte

/-- The upper four bits the n-th draw of the run gives to a nibble-RAM read when
`NIBBLE_UPPER = draw` (R78). -/
opaque Config.drawnNibble : Nat → BitVec 4

end Sys2Proof
end

