-- ==== Sys2Proof/Machine/Cells.lean ====
section
/-! DEFINITION. Sparse storage: cells of `w` bits under natural-number keys, as a list of (key, value)
pairs in one canonical form.  The memory (`w = 8`) and a frame's pixels (`w = 4`) are such lists. -/

namespace Sys2Proof.Machine

abbrev Cells (w : Nat) := List (Nat × BitVec w)

/-- What a key that is not listed reads as: zero.  RAM and nibble-RAM cells and pixels start at 0 (R40,
R44, R76); a ROM byte no image placed reads 0 too (log entry 2). -/
def Cells.unlisted (w : Nat) : BitVec w := 0#w

/-- The value under a key. -/
def Cells.get {w : Nat} : Cells w → Nat → BitVec w
  | [], _ => Cells.unlisted w
  | (j, v) :: rest, k => if k = j then v else Cells.get rest k

/-- Put a value under a key; the canonical form lists no value that an unlisted key reads as. -/
def Cells.set {w : Nat} : Cells w → Nat → BitVec w → Cells w
  | [], k, v => if v = Cells.unlisted w then [] else [(k, v)]
  | (j, u) :: rest, k, v =>
    if k < j then (if v = Cells.unlisted w then (j, u) :: rest else (k, v) :: (j, u) :: rest)
    else if k = j then (if v = Cells.unlisted w then rest else (k, v) :: rest)
    else (j, u) :: Cells.set rest k v

/-- The canonical form: keys strictly rising, no entry equal to what an unlisted key reads as. -/
def Cells.wf {w : Nat} (m : Cells w) : Bool :=
  decide (m.Pairwise fun p q => p.1 < q.1) && m.all fun p => p.2 != Cells.unlisted w

/-- Put consecutive bytes from a key on (pre-loading, R83). -/
def Cells.load {w : Nat} (m : Cells w) : Nat → List (BitVec w) → Cells w
  | _, [] => m
  | k, v :: rest => Cells.load (m.set k v) (k + 1) rest

/-- The machine's memory: the cells of every RAM, nibble-RAM and ROM chip under their bus addresses
(R40, R70).  A nibble-RAM cell is a byte below 16. -/
abbrev Memory := Cells 8

/-- The memory is in canonical form. -/
def Memory.wf (m : Memory) : Bool := Cells.wf m

end Sys2Proof.Machine
end

