-- ==== Sys2Proof/Machine/Bits.lean ====
section
/-! DEFINITION. Bit fields, byte order and address formation (R12, R13, R17, R71, R94). -/

namespace Sys2Proof.Machine

/-- `hi:lo`, the 16-bit value `hi * 256 + lo` (R12); the low byte stands at the lower address (R94). -/
def word (hi lo : Byte) : Word := hi ++ lo

/-- `w[15:8]`. -/
def highByte (w : Word) : Byte := w.extractLsb' 8 8

/-- `w[7:0]`. -/
def lowByte (w : Word) : Byte := w.extractLsb' 0 8

/-- `ZP(a) = 0x00:a` (R17, R158). -/
def zeroPage (a : Byte) : Word := word 0x00#8 a

/-- `STK(s) = 0x01:s` (R17, R32). -/
def stackAddr (s : Byte) : Word := word 0x01#8 s

/-- `sext_16(v)` (R13). -/
def sext16 (v : Byte) : Word := v.signExtend 16

/-- Does the unsigned sum of two bytes carry out of 8 bits?  "Page crossed" of R162 and R164. -/
def carriesOut (a b : Byte) : Bool := decide (0xFF < a.toNat + b.toNat)

/-- The bus address of a CPU address, `addr & 0x3FFF`, as the key of the memory's cells (R71). -/
def busAddr (a : Word) : Nat := (a &&& 0x3FFF#16).toNat

end Sys2Proof.Machine
end

