-- ==== Sys2Proof/Machine/VicDerive.lean ====
section
/-! DEFINITION. The VIC's derived fields and the pure function of the registers that gives them (R42,
R401 to R417, R434). -/

namespace Sys2Proof.Machine

/-- The derived fields of R42; window edges are in pixels (left, right) and lines (top, bottom). -/
structure Derived where
  columns          : Nat
  rows             : Nat
  charSize         : Nat
  charShift        : Nat
  screenLeft       : Nat
  screenRight      : Nat
  screenTop        : Nat
  screenBottom     : Nat
  videoStart       : Word
  colourStart      : Word
  charStart        : Word
  backgroundColour : BitVec 4
  borderColour     : BitVec 4
  auxColour        : BitVec 4
deriving DecidableEq, Repr

/-- The VADDR9 term `(reg[2] >> 7) << 9` of R417. -/
def vaddr9 (reg2 : Byte) : Word := if reg2.getLsbD 7 then 0x0200#16 else 0x0000#16

/-- The recomputation of R417 from the sixteen register bytes. -/
def derive (c : Config) (reg : Vector Byte 16) : Derived :=
  let columns := (reg[2] &&& 0x7F#8).toNat
  let rows := ((reg[3] >>> 1) &&& 0x3F#8).toNat
  let tall := reg[3].getLsbD 0
  let charSize := if tall then 16 else 8
  let left := (reg[0] &&& 0x7F#8).toNat * 4
  let top := reg[1].toNat * 2
  { columns, rows, charSize
    charShift := if tall then 4 else 3
    screenLeft := left
    screenRight := left + columns * 8
    screenTop := top
    screenBottom := top + rows * charSize
    videoStart := (c.videoBase.get (reg[5].extractLsb' 4 4).toFin + vaddr9 reg[2]) &&& 0x3FFF#16
    colourStart := (c.colourBase + vaddr9 reg[2]) &&& 0x3FFF#16
    charStart := c.charBase.get (reg[5].extractLsb' 0 4).toFin &&& 0x3FFF#16
    backgroundColour := reg[15].extractLsb' 4 4
    borderColour := reg[15].extractLsb' 0 4 &&& 0x7#4
    auxColour := reg[14].extractLsb' 4 4 }

/-- The four-entry multicolour table `mc = [backgroundColour, borderColour, cellColour, auxColour]` (R434). -/
def multicolour (d : Derived) (cellColour : BitVec 4) : Vector (BitVec 4) 4 :=
  #v[d.backgroundColour, d.borderColour, cellColour, d.auxColour]

end Sys2Proof.Machine
end

