-- ==== Sys2Proof/Machine/State.lean ====
section
/-! DEFINITION. The state of the machine as plain data (10_state.md), what can stop it, and the state
after reset. -/

namespace Sys2Proof.Machine

/-- The fault record of R38 and R610; `IllegalOpcode` is the only kind.  Raised by the opcode fetch of an
undocumented opcode under `ILLEGAL_OPCODE_POLICY = fault` (R613) and held in `Cpu.fault`.  The step that
records it still answers a next state, because the VIC and the PIA go on (R502); no step answers
`Host.Outcome.fault`.  Safe: the record is what the spec prescribes, and a stopped CPU changes nothing. -/
inductive Fault where
  /-- `Fault(IllegalOpcode, pc, opcode)`, `pc` the address of the opcode (R612, R613). -/
  | illegalOpcode (pc : Word) (opcode : Byte)
deriving DecidableEq, Repr

/-- Reasons for which there is no next state.  No step answers one of them: a start-up is refused
before any state exists (R521). -/
inductive Refusal where
  /-- An instruction without a meaning.  Raised by no arm of `exec`: every one has its meaning.  Safe. -/
  | notModelled (mnemonic : String)
  /-- Raised by `startMachine`: the number of ROM images is not eight (R88, R521).  Safe. -/
  | romImageMissing
  /-- Raised by `startMachine`: a ROM image is not exactly 1,024 bytes (R88, R521).  Safe. -/
  | romImageWrongSize
  /-- Raised by `startMachine`: a pre-load's length differs from its range's size (R83, R521).  Safe. -/
  | preloadWrongSize
  /-- Raised by `startMachine`: two ranges of `BUS_MAP` overlap (R88, R521).  Safe. -/
  | busMapOverlap
  /-- Raised by `startMachine`: `BUS_MAP` leaves an address without an owner, or names one outside the
  14-bit space (R74, R88, R521).  Safe. -/
  | busMapGap
  /-- Raised by `startMachine`: `BUS_MAP` or `BUTTON_BIT` violates the constraints the parameter has (R85,
  R87, R481), outside which the spec describes no machine.  Safe. -/
  | parameterConstraint
  /-- Raised by `startMachine`: the profile violates R436 (R521).  Safe. -/
  | profileInvalid
deriving DecidableEq, Repr

/-- The six stored flags of the status register P (R34). -/
structure Flags where
  n : Bool
  v : Bool
  d : Bool
  i : Bool
  z : Bool
  c : Bool
deriving DecidableEq, Repr

/-- The processor registers (R30 to R34). -/
structure Regs where
  a  : Byte
  x  : Byte
  y  : Byte
  s  : Byte
  pc : Word
  p  : Flags
deriving DecidableEq, Repr

/-- The two interrupt kinds (R600, R606). -/
inductive IntKind where
  | nmi | irq
deriving DecidableEq, Repr

/-- Which sequence the CPU is running (R37). -/
inductive Seq where
  | instr
  | reset
  | interrupt (k : IntKind)
deriving DecidableEq, Repr

/-- The hidden micro-step state (R37): the cycles of the sequence already performed, the sequence, the
opcode latch IR and the latches of the cycle tables. -/
structure Micro where
  cyc     : Nat
  seq     : Seq
  ir      : Byte
  adl     : Byte
  adh     : Byte
  bal     : Byte
  bah     : Byte
  ptr     : Byte
  data    : Byte
  crossed : Bool
deriving DecidableEq, Repr

/-- The processor: registers, micro-step state, fault record (R38) and interrupt lines (R39). -/
structure Cpu where
  regs       : Regs
  micro      : Micro
  fault      : Option Fault
  nmiLine    : Bool
  irqLine    : Bool
  nmiPending : Bool
deriving DecidableEq, Repr

/-- The two values of the fetch toggle (R43, R426). -/
inductive FetchToggle where
  | screenCode | charData
deriving DecidableEq, Repr

/-- One of the two frames (R44): its `W * H` pixels, palette indices under row-major positions, and its
ready bit. -/
structure Frame where
  pixels : Cells 4
  ready  : Bool
deriving DecidableEq, Repr

/-- The number of a frame (R44). -/
inductive FrameId where
  | zero | one
deriving DecidableEq, Repr

/-- The VIC: registers (R41), derived fields and multicolour table (R42, R434), raster state (R43) and
frames (R44). -/
structure Vic where
  reg           : Vector Byte 16
  derived       : Derived
  mc            : Vector (BitVec 4) 4
  h             : Nat
  v             : Nat
  matrixCounter : Word
  rowStart      : Word
  cellDepth     : Nat
  fetchToggle   : FetchToggle
  cellCode      : Byte
  cellColour    : BitVec 4
  lastFetch     : Byte
  pixelCursor   : Nat
  frame0        : Frame
  frame1        : Frame
  active        : FrameId
deriving DecidableEq, Repr

/-- One port of the PIA (R45): output register, direction register, pins, input latch, the two
control-line fields and the access-mode flag. -/
structure Port where
  out   : Byte
  ddr   : Byte
  pins  : Byte
  latch : Byte
  c1    : BitVec 2
  c2    : BitVec 3
  acc   : Bool
deriving DecidableEq, Repr

/-- The PIA's two ports (R45, R470). -/
structure Pia where
  portA : Port
  portB : Port
deriving DecidableEq, Repr

/-- The machine.  `cfg` is its configuration (R9, R10), `profile` the selected `PROFILE` (R47), `mem` the
cells of the storage chips (R40), `sig` the joystick signal (R46), `paused` the pause flag (R47).
Two fields are the MODEL's own: `skipRender`, the argument the host passes to `stepOneCycle` in each
cycle (R501, R503), and `draws`, the number of free values drawn so far (R16, R78, R80). -/
structure State where
  cfg        : Config
  profile    : Profile
  cpu        : Cpu
  mem        : List Host.Cell
  vic        : Vic
  pia        : Pia
  sig        : Byte
  paused     : Bool
  skipRender : Bool
  draws      : Nat
deriving DecidableEq, Repr

/-- A port after reset: everything 0 (R45). -/
def Port.reset : Port :=
  { out := 0#8, ddr := 0#8, pins := 0#8, latch := 0#8, c1 := 0#2, c2 := 0#3, acc := false }

/-- The PIA after reset (R45, R704). -/
def Pia.reset : Pia := { portA := Port.reset, portB := Port.reset }

/-- A frame at initialisation: every pixel 0, not ready (R44). -/
def Frame.blank : Frame := { pixels := [], ready := false }

/-- The VIC at initialisation: `VIC_REG_INIT`, its derived fields, raster state and frames (R41 to R44). -/
def Vic.initial (c : Config) : Vic :=
  { reg := c.vicRegInit
    derived := derive c c.vicRegInit
    mc := multicolour (derive c c.vicRegInit) 0#4
    h := 0, v := 0, matrixCounter := 0#16, rowStart := 0#16, cellDepth := 0
    fetchToggle := .screenCode, cellCode := 0#8, cellColour := 0#4, lastFetch := 0#8
    pixelCursor := 0, frame0 := Frame.blank, frame1 := Frame.blank, active := .zero }

/-- The CPU after reset with `RESET_CYCLES = 0` (R701, R702): S = `RESET_SP` = 0xFD and I = 1; PC is the
vector at 0xFFFC, 0x0000 in a machine whose ROM bytes are all 0.  A, X, Y, C, Z, D, V, N and the latches,
which the spec leaves unspecified, are 0. DESIGN CHOICE (log entry 1), unsafe. -/
def Cpu.reset : Cpu :=
  { regs := { a := 0#8, x := 0#8, y := 0#8, s := 0xFD#8, pc := 0x0000#16
              p := { n := false, v := false, d := false, i := true, z := false, c := false } }
    micro := { cyc := 0, seq := .instr, ir := 0#8, adl := 0#8, adh := 0#8, bal := 0#8, bah := 0#8
               ptr := 0#8, data := 0#8, crossed := false }
    fault := none, nmiLine := false, irqLine := false, nmiPending := false }

/-- The machine right after initialisation (R520, R704) with the configuration `Config.reference`, the
TEST profile, ROM bytes all 0 (log entries 2, 3 and 4), on the render path (log entry 5). -/
def State.reset : State :=
  { cfg := Config.reference
    profile := Profile.test
    cpu := Cpu.reset
    mem := []
    vic := Vic.initial Config.reference
    pia := Pia.reset
    sig := 0#8
    paused := false
    skipRender := false
    draws := 0 }

end Sys2Proof.Machine
end

