-- ==== Sys2Proof/Machine/Flags.lean ====
section
/-! DEFINITION. Every flag computation (R34, R35, R230 to R233, R239) and the effect of every operation
on the registers, given its operand byte. -/

namespace Sys2Proof.Machine

/-- `pack(P, b)` (R35): bit 5 is 1, bit 4 the break bit. -/
def Flags.pack (p : Flags) (brk : Bool) : Byte :=
  let bit (b : Bool) : BitVec 1 := BitVec.ofBool b
  bit p.n ++ bit p.v ++ 1#1 ++ bit brk ++ bit p.d ++ bit p.i ++ bit p.z ++ bit p.c

/-- `unpack(v)` (R35): bits 5 and 4 are discarded. -/
def Flags.unpack (v : Byte) : Flags :=
  { n := v.getLsbD 7, v := v.getLsbD 6, d := v.getLsbD 3, i := v.getLsbD 2, z := v.getLsbD 1
    c := v.getLsbD 0 }

/-- `setNZ(v)` (R14). -/
def Flags.setNZ (p : Flags) (v : Byte) : Flags := { p with n := v.getLsbD 7, z := decide (v = 0#8) }

/-- An arithmetic result: the byte and the flags C, V, N, Z. -/
structure AluOut where
  r : Byte
  c : Bool
  v : Bool
  n : Bool
  z : Bool
deriving DecidableEq, Repr

/-- `add_bin(a, m, c)` (R230). -/
def addBin (a m : Byte) (c : Bool) : AluOut :=
  let t := a.toNat + m.toNat + c.toNat
  let r := BitVec.ofNat 8 t
  { r := r, c := decide (0xFF < t), v := ((a ^^^ r) &&& (m ^^^ r)).getLsbD 7, n := r.getLsbD 7
    z := decide (r = 0#8) }

/-- `add_dec(a, m, c)` of the NMOS 6502 (R231), defined for every byte pair. -/
def addDec (a m : Byte) (c : Bool) : AluOut :=
  let low := a.toNat % 16 + m.toNat % 16 + c.toNat
  let al := if 0x0A ≤ low then (low + 0x06) % 16 + 0x10 else low
  let t := a.toNat / 16 * 16 + m.toNat / 16 * 16 + al
  let tb := BitVec.ofNat 8 t
  let u := if 0xA0 ≤ t then t + 0x60 else t
  { r := BitVec.ofNat 8 u
    c := decide (0x100 ≤ u)
    v := ((~~~(a ^^^ m)) &&& (a ^^^ tb)).getLsbD 7
    n := tb.getLsbD 7
    z := decide ((a.toNat + m.toNat + c.toNat) % 256 = 0) }

/-- `sub_bin(a, m, c)`, the borrow being `1 - c` (R232). -/
def subBin (a m : Byte) (c : Bool) : AluOut :=
  let t : Int := (a.toNat : Int) - m.toNat - (1 - c.toNat)
  let r := BitVec.ofInt 8 t
  { r := r, c := decide (0 ≤ t), v := ((a ^^^ m) &&& (a ^^^ r)).getLsbD 7, n := r.getLsbD 7
    z := decide (r = 0#8) }

/-- `sub_dec(a, m, c)` of the NMOS 6502 (R233): the result is decimal, the flags are binary. -/
def subDec (a m : Byte) (c : Bool) : AluOut :=
  let low : Int := (a.toNat % 16 : Nat) - (m.toNat % 16 : Nat) + c.toNat - 1
  let al : Int := if low < 0 then (low - 0x06) % 16 - 0x10 else low
  let t : Int := (a.toNat / 16 * 16 : Nat) - (m.toNat / 16 * 16 : Nat) + al
  let u : Int := if t < 0 then t - 0x60 else t
  { subBin a m c with r := BitVec.ofInt 8 u }

/-- Write an arithmetic result to A and the four flags (R234, R235). -/
def Regs.takeAlu (q : Regs) (o : AluOut) : Regs :=
  { q with a := o.r, p := { q.p with n := o.n, v := o.v, z := o.z, c := o.c } }

/-- Write A, X, Y with the N and Z of the value written (R14). -/
def Regs.setA (q : Regs) (v : Byte) : Regs := { q with a := v, p := q.p.setNZ v }
def Regs.setX (q : Regs) (v : Byte) : Regs := { q with x := v, p := q.p.setNZ v }
def Regs.setY (q : Regs) (v : Byte) : Regs := { q with y := v, p := q.p.setNZ v }

/-- ADC (R234). -/
def Regs.adc (q : Regs) (m : Byte) : Regs :=
  q.takeAlu (if q.p.d then addDec q.a m q.p.c else addBin q.a m q.p.c)

/-- SBC (R235). -/
def Regs.sbc (q : Regs) (m : Byte) : Regs :=
  q.takeAlu (if q.p.d then subDec q.a m q.p.c else subBin q.a m q.p.c)

/-- `compare(r, m)` (R239): C, Z and N; no register and no other flag. -/
def Flags.compare (p : Flags) (r m : Byte) : Flags :=
  { p with c := decide (m.toNat ≤ r.toNat), z := decide (r = m), n := (r - m).getLsbD 7 }

/-- BIT (R243). -/
def Flags.bitTest (p : Flags) (a m : Byte) : Flags :=
  { p with z := decide (a &&& m = 0#8), n := m.getLsbD 7, v := m.getLsbD 6 }

/-- A shift, rotate, increment or decrement: the new byte and the flags (R260, R261, R266 to R269). -/
def shiftFlags (p : Flags) (r : Byte) (carry : Bool) : Flags := { p.setNZ r with c := carry }

def incOp (p : Flags) (d : Byte) : Byte × Flags := (d + 1, p.setNZ (d + 1))
def decOp (p : Flags) (d : Byte) : Byte × Flags := (d - 1, p.setNZ (d - 1))

/-- ASL (R266). -/
def aslOp (p : Flags) (d : Byte) : Byte × Flags := (d <<< 1, shiftFlags p (d <<< 1) (d.getLsbD 7))

/-- LSR (R267). -/
def lsrOp (p : Flags) (d : Byte) : Byte × Flags := (d >>> 1, shiftFlags p (d >>> 1) (d.getLsbD 0))

/-- ROL through the carry before the instruction (R268). -/
def rolOp (p : Flags) (d : Byte) : Byte × Flags :=
  let r := (d <<< 1) ||| (if p.c then 0x01#8 else 0x00#8)
  (r, shiftFlags p r (d.getLsbD 7))

/-- ROR through the carry before the instruction (R269). -/
def rorOp (p : Flags) (d : Byte) : Byte × Flags :=
  let r := (d >>> 1) ||| (if p.c then 0x80#8 else 0x00#8)
  (r, shiftFlags p r (d.getLsbD 0))

end Sys2Proof.Machine
end

