-- ==== Sys2Proof/Syntax.lean ====
section
/-! DEFINITION. The instructions as syntax: one constructor per row of spec/opcode_table.json, in the
order of the rules that define them.  A constructor's name is its row's mnemonic and addressing mode
(R127): Imm Immediate, Zp Zero page, ZpX and ZpY Zero page indexed, Abs Absolute, AbsX and AbsY
Absolute indexed, IndX (Indirect,X), IndY (Indirect),Y, A Accumulator, Ind Absolute indirect; no suffix
where the mnemonic has one mode.  `data` is an immediate value, `op8` a zero-page address or pointer,
`off` a signed branch displacement, `addr` the 16-bit operand `hi:lo` (R122, R123). -/

namespace Sys2Proof

/-- The 151 documented instructions (R127). -/
inductive Instr where
  -- LDA, R200
  | ldaIndX (op8 : Byte)
  | ldaZp (op8 : Byte)
  | ldaImm (data : Byte)
  | ldaAbs (addr : Word)
  | ldaIndY (op8 : Byte)
  | ldaZpX (op8 : Byte)
  | ldaAbsY (addr : Word)
  | ldaAbsX (addr : Word)
  -- LDX, R201
  | ldxImm (data : Byte)
  | ldxZp (op8 : Byte)
  | ldxAbs (addr : Word)
  | ldxZpY (op8 : Byte)
  | ldxAbsY (addr : Word)
  -- LDY, R202
  | ldyImm (data : Byte)
  | ldyZp (op8 : Byte)
  | ldyAbs (addr : Word)
  | ldyZpX (op8 : Byte)
  | ldyAbsX (addr : Word)
  -- STA, R203
  | staIndX (op8 : Byte)
  | staZp (op8 : Byte)
  | staAbs (addr : Word)
  | staIndY (op8 : Byte)
  | staZpX (op8 : Byte)
  | staAbsY (addr : Word)
  | staAbsX (addr : Word)
  -- STX, R204
  | stxZp (op8 : Byte)
  | stxAbs (addr : Word)
  | stxZpY (op8 : Byte)
  -- STY, R205
  | styZp (op8 : Byte)
  | styAbs (addr : Word)
  | styZpX (op8 : Byte)
  -- TAX, R206
  | tax
  -- TAY, R207
  | tay
  -- TXA, R208
  | txa
  -- TYA, R209
  | tya
  -- TSX, R210
  | tsx
  -- TXS, R211
  | txs
  -- ADC, R234
  | adcIndX (op8 : Byte)
  | adcZp (op8 : Byte)
  | adcImm (data : Byte)
  | adcAbs (addr : Word)
  | adcIndY (op8 : Byte)
  | adcZpX (op8 : Byte)
  | adcAbsY (addr : Word)
  | adcAbsX (addr : Word)
  -- SBC, R235
  | sbcIndX (op8 : Byte)
  | sbcZp (op8 : Byte)
  | sbcImm (data : Byte)
  | sbcAbs (addr : Word)
  | sbcIndY (op8 : Byte)
  | sbcZpX (op8 : Byte)
  | sbcAbsY (addr : Word)
  | sbcAbsX (addr : Word)
  -- AND, R236
  | andIndX (op8 : Byte)
  | andZp (op8 : Byte)
  | andImm (data : Byte)
  | andAbs (addr : Word)
  | andIndY (op8 : Byte)
  | andZpX (op8 : Byte)
  | andAbsY (addr : Word)
  | andAbsX (addr : Word)
  -- ORA, R237
  | oraIndX (op8 : Byte)
  | oraZp (op8 : Byte)
  | oraImm (data : Byte)
  | oraAbs (addr : Word)
  | oraIndY (op8 : Byte)
  | oraZpX (op8 : Byte)
  | oraAbsY (addr : Word)
  | oraAbsX (addr : Word)
  -- EOR, R238
  | eorIndX (op8 : Byte)
  | eorZp (op8 : Byte)
  | eorImm (data : Byte)
  | eorAbs (addr : Word)
  | eorIndY (op8 : Byte)
  | eorZpX (op8 : Byte)
  | eorAbsY (addr : Word)
  | eorAbsX (addr : Word)
  -- CMP, R240
  | cmpIndX (op8 : Byte)
  | cmpZp (op8 : Byte)
  | cmpImm (data : Byte)
  | cmpAbs (addr : Word)
  | cmpIndY (op8 : Byte)
  | cmpZpX (op8 : Byte)
  | cmpAbsY (addr : Word)
  | cmpAbsX (addr : Word)
  -- CPX, R241
  | cpxImm (data : Byte)
  | cpxZp (op8 : Byte)
  | cpxAbs (addr : Word)
  -- CPY, R242
  | cpyImm (data : Byte)
  | cpyZp (op8 : Byte)
  | cpyAbs (addr : Word)
  -- BIT, R243
  | bitZp (op8 : Byte)
  | bitAbs (addr : Word)
  -- INC, R260
  | incZp (op8 : Byte)
  | incAbs (addr : Word)
  | incZpX (op8 : Byte)
  | incAbsX (addr : Word)
  -- DEC, R261
  | decZp (op8 : Byte)
  | decAbs (addr : Word)
  | decZpX (op8 : Byte)
  | decAbsX (addr : Word)
  -- INX, R262
  | inx
  -- INY, R263
  | iny
  -- DEX, R264
  | dex
  -- DEY, R265
  | dey
  -- ASL, R266
  | aslZp (op8 : Byte)
  | aslA
  | aslAbs (addr : Word)
  | aslZpX (op8 : Byte)
  | aslAbsX (addr : Word)
  -- LSR, R267
  | lsrZp (op8 : Byte)
  | lsrA
  | lsrAbs (addr : Word)
  | lsrZpX (op8 : Byte)
  | lsrAbsX (addr : Word)
  -- ROL, R268
  | rolZp (op8 : Byte)
  | rolA
  | rolAbs (addr : Word)
  | rolZpX (op8 : Byte)
  | rolAbsX (addr : Word)
  -- ROR, R269
  | rorZp (op8 : Byte)
  | rorA
  | rorAbs (addr : Word)
  | rorZpX (op8 : Byte)
  | rorAbsX (addr : Word)
  -- BCC, R291
  | bcc (off : Byte)
  -- BCS, R292
  | bcs (off : Byte)
  -- BEQ, R293
  | beq (off : Byte)
  -- BNE, R294
  | bne (off : Byte)
  -- BMI, R295
  | bmi (off : Byte)
  -- BPL, R296
  | bpl (off : Byte)
  -- BVC, R297
  | bvc (off : Byte)
  -- BVS, R298
  | bvs (off : Byte)
  -- JMP, R299
  | jmpAbs (addr : Word)
  | jmpInd (addr : Word)
  -- JSR, R300
  | jsr (addr : Word)
  -- RTS, R301
  | rts
  -- RTI, R302
  | rti
  -- BRK, R303
  | brk
  -- PHA, R320
  | pha
  -- PHP, R321
  | php
  -- PLA, R322
  | pla
  -- PLP, R323
  | plp
  -- CLC, R324
  | clc
  -- CLD, R325
  | cld
  -- CLI, R326
  | cli
  -- CLV, R327
  | clv
  -- SEC, R328
  | sec
  -- SED, R329
  | sed
  -- SEI, R330
  | sei
  -- NOP, R331
  | nop
deriving DecidableEq, Repr

end Sys2Proof
end

