-- ==== Sys2Proof/WellFormed.lean ====
section
/-! DEFINITION. What is well formed: instructions and configurations.  Every instruction term is well
formed, because each documented opcode is defined for every operand byte (R129) and an operand's type
holds its width.  A configuration is checked as R521 says, before any state exists. -/

namespace Sys2Proof

/-- Every operand value of every documented opcode is defined: there is no reserved operand (R129). -/
def Instr.wellFormed (_ : Instr) : Bool := true

/-- Every range lies in the 14-bit space (R70, R74). -/
def busMapInSpace (m : List Region) : Bool := m.all fun r => decide (r.base + r.size ≤ 0x4000)

/-- No two ranges share an address (R74, R88). -/
def busMapDisjoint (m : List Region) : Bool :=
  decide (m.Pairwise fun r q => r.base + r.size ≤ q.base ∨ q.base + q.size ≤ r.base)

/-- Disjoint ranges inside the space leave no gap exactly when their sizes add up to it (R74, R88). -/
def busMapCovers (m : List Region) : Bool := decide ((m.map Region.size).sum = 0x4000)

/-- Does some range of nibble RAM hold the bus address? -/
def inNibbleRam (m : List Region) (a : Nat) : Bool :=
  m.any fun r => r.chip == .nibbleRam && decide (r.base ≤ a ∧ a < r.base + r.size)

/-- Is there a range of the chip, and does every such range have at least `n` offsets (R87)? -/
def chipHasOffsets (m : List Region) (chip : ChipKind) (n : Nat) : Bool :=
  (m.any fun r => r.chip == chip) && m.all fun r => r.chip != chip || decide (n ≤ r.size)

/-- The constraints of R87 (and R85): bus 0x2000 to 0x3FFF is ROM, there is a VIC range of at least 16
offsets and a PIA range of at least 4, and the colour memory lies in nibble RAM.  R87 and R417 give where
the colour memory starts and no size: only its two starts (VADDR9 0 and 1) are checked.
DESIGN CHOICE (log entry 19), safe. -/
def busMapWorks (c : Config) : Bool :=
  (c.busMap.all fun r => r.chip == .rom || decide (r.base + r.size ≤ 0x2000))
  && chipHasOffsets c.busMap .vic 16
  && chipHasOffsets c.busMap .pia 4
  && inNibbleRam c.busMap (c.colourBase &&& 0x3FFF#16).toNat
  && inNibbleRam c.busMap ((c.colourBase + 0x0200#16) &&& 0x3FFF#16).toNat

/-- `BUTTON_BIT` is injective (R481). -/
def ButtonBits.injective (b : ButtonBits) : Bool :=
  decide ([b.fire, b.coin, b.left, b.right, b.start].Pairwise (· ≠ ·))

/-- The constraints on a profile (R436): W a multiple of 4 and at least 8, H at least 1, VBLANK at
most H. -/
def Profile.valid (p : Profile) : Bool :=
  decide (p.width % 4 = 0 ∧ 8 ≤ p.width ∧ 1 ≤ p.height ∧ p.vblank ≤ p.height)

/-- Eight ROM images of exactly 1,024 bytes each (R85, R88). -/
def romImagesCounted (images : List (List Byte)) : Bool := decide (images.length = 8)

/-- Every ROM image has exactly 1,024 bytes (R88). -/
def romImagesSized (images : List (List Byte)) : Bool := images.all fun i => decide (i.length = 1024)

/-- A pre-load's length is exactly the size of the range it is loaded into (R83). -/
def preloadFits (m : List Region) (p : Nat × List Byte) : Bool :=
  m.any fun r => decide (r.base = p.1 ∧ r.size = p.2.length)
    && (r.chip == .ram || r.chip == .nibbleRam || r.chip == .rom)

end Sys2Proof
end

