-- ==== Sys2Proof/Decode.lean ====
section
/-! DEFINITION. The decoder and the encoder (R120 to R130).  The opcode byte alone determines the
instruction, its addressing mode and its length (R120, R130); the table of R127 is the decoder (R125). -/

namespace Sys2Proof

open Sys2Proof.Machine (word highByte lowByte)

/-- What the bytes after an opcode are: none (format F1, R121), one (F2, R122), or a 16-bit operand, low
byte first (F3, R123). -/
inductive Format where
  | f1 (i : Instr)
  | f2 (make : Byte → Instr)
  | f3 (make : Word → Instr)

/-- The length of an instruction, from its opcode alone (R130). -/
def Format.length : Format → Nat
  | .f1 _ => 1
  | .f2 _ => 2
  | .f3 _ => 3

/-- The complete opcode list (R127), with `none` for the 105 undocumented opcodes (R128). -/
def opcodeTable (opcode : Byte) : Option Format :=
  match opcode with
  | 0x00#8 => some (.f1 .brk)
  | 0x01#8 => some (.f2 .oraIndX)
  | 0x05#8 => some (.f2 .oraZp)
  | 0x06#8 => some (.f2 .aslZp)
  | 0x08#8 => some (.f1 .php)
  | 0x09#8 => some (.f2 .oraImm)
  | 0x0A#8 => some (.f1 .aslA)
  | 0x0D#8 => some (.f3 .oraAbs)
  | 0x0E#8 => some (.f3 .aslAbs)
  | 0x10#8 => some (.f2 .bpl)
  | 0x11#8 => some (.f2 .oraIndY)
  | 0x15#8 => some (.f2 .oraZpX)
  | 0x16#8 => some (.f2 .aslZpX)
  | 0x18#8 => some (.f1 .clc)
  | 0x19#8 => some (.f3 .oraAbsY)
  | 0x1D#8 => some (.f3 .oraAbsX)
  | 0x1E#8 => some (.f3 .aslAbsX)
  | 0x20#8 => some (.f3 .jsr)
  | 0x21#8 => some (.f2 .andIndX)
  | 0x24#8 => some (.f2 .bitZp)
  | 0x25#8 => some (.f2 .andZp)
  | 0x26#8 => some (.f2 .rolZp)
  | 0x28#8 => some (.f1 .plp)
  | 0x29#8 => some (.f2 .andImm)
  | 0x2A#8 => some (.f1 .rolA)
  | 0x2C#8 => some (.f3 .bitAbs)
  | 0x2D#8 => some (.f3 .andAbs)
  | 0x2E#8 => some (.f3 .rolAbs)
  | 0x30#8 => some (.f2 .bmi)
  | 0x31#8 => some (.f2 .andIndY)
  | 0x35#8 => some (.f2 .andZpX)
  | 0x36#8 => some (.f2 .rolZpX)
  | 0x38#8 => some (.f1 .sec)
  | 0x39#8 => some (.f3 .andAbsY)
  | 0x3D#8 => some (.f3 .andAbsX)
  | 0x3E#8 => some (.f3 .rolAbsX)
  | 0x40#8 => some (.f1 .rti)
  | 0x41#8 => some (.f2 .eorIndX)
  | 0x45#8 => some (.f2 .eorZp)
  | 0x46#8 => some (.f2 .lsrZp)
  | 0x48#8 => some (.f1 .pha)
  | 0x49#8 => some (.f2 .eorImm)
  | 0x4A#8 => some (.f1 .lsrA)
  | 0x4C#8 => some (.f3 .jmpAbs)
  | 0x4D#8 => some (.f3 .eorAbs)
  | 0x4E#8 => some (.f3 .lsrAbs)
  | 0x50#8 => some (.f2 .bvc)
  | 0x51#8 => some (.f2 .eorIndY)
  | 0x55#8 => some (.f2 .eorZpX)
  | 0x56#8 => some (.f2 .lsrZpX)
  | 0x58#8 => some (.f1 .cli)
  | 0x59#8 => some (.f3 .eorAbsY)
  | 0x5D#8 => some (.f3 .eorAbsX)
  | 0x5E#8 => some (.f3 .lsrAbsX)
  | 0x60#8 => some (.f1 .rts)
  | 0x61#8 => some (.f2 .adcIndX)
  | 0x65#8 => some (.f2 .adcZp)
  | 0x66#8 => some (.f2 .rorZp)
  | 0x68#8 => some (.f1 .pla)
  | 0x69#8 => some (.f2 .adcImm)
  | 0x6A#8 => some (.f1 .rorA)
  | 0x6C#8 => some (.f3 .jmpInd)
  | 0x6D#8 => some (.f3 .adcAbs)
  | 0x6E#8 => some (.f3 .rorAbs)
  | 0x70#8 => some (.f2 .bvs)
  | 0x71#8 => some (.f2 .adcIndY)
  | 0x75#8 => some (.f2 .adcZpX)
  | 0x76#8 => some (.f2 .rorZpX)
  | 0x78#8 => some (.f1 .sei)
  | 0x79#8 => some (.f3 .adcAbsY)
  | 0x7D#8 => some (.f3 .adcAbsX)
  | 0x7E#8 => some (.f3 .rorAbsX)
  | 0x81#8 => some (.f2 .staIndX)
  | 0x84#8 => some (.f2 .styZp)
  | 0x85#8 => some (.f2 .staZp)
  | 0x86#8 => some (.f2 .stxZp)
  | 0x88#8 => some (.f1 .dey)
  | 0x8A#8 => some (.f1 .txa)
  | 0x8C#8 => some (.f3 .styAbs)
  | 0x8D#8 => some (.f3 .staAbs)
  | 0x8E#8 => some (.f3 .stxAbs)
  | 0x90#8 => some (.f2 .bcc)
  | 0x91#8 => some (.f2 .staIndY)
  | 0x94#8 => some (.f2 .styZpX)
  | 0x95#8 => some (.f2 .staZpX)
  | 0x96#8 => some (.f2 .stxZpY)
  | 0x98#8 => some (.f1 .tya)
  | 0x99#8 => some (.f3 .staAbsY)
  | 0x9A#8 => some (.f1 .txs)
  | 0x9D#8 => some (.f3 .staAbsX)
  | 0xA0#8 => some (.f2 .ldyImm)
  | 0xA1#8 => some (.f2 .ldaIndX)
  | 0xA2#8 => some (.f2 .ldxImm)
  | 0xA4#8 => some (.f2 .ldyZp)
  | 0xA5#8 => some (.f2 .ldaZp)
  | 0xA6#8 => some (.f2 .ldxZp)
  | 0xA8#8 => some (.f1 .tay)
  | 0xA9#8 => some (.f2 .ldaImm)
  | 0xAA#8 => some (.f1 .tax)
  | 0xAC#8 => some (.f3 .ldyAbs)
  | 0xAD#8 => some (.f3 .ldaAbs)
  | 0xAE#8 => some (.f3 .ldxAbs)
  | 0xB0#8 => some (.f2 .bcs)
  | 0xB1#8 => some (.f2 .ldaIndY)
  | 0xB4#8 => some (.f2 .ldyZpX)
  | 0xB5#8 => some (.f2 .ldaZpX)
  | 0xB6#8 => some (.f2 .ldxZpY)
  | 0xB8#8 => some (.f1 .clv)
  | 0xB9#8 => some (.f3 .ldaAbsY)
  | 0xBA#8 => some (.f1 .tsx)
  | 0xBC#8 => some (.f3 .ldyAbsX)
  | 0xBD#8 => some (.f3 .ldaAbsX)
  | 0xBE#8 => some (.f3 .ldxAbsY)
  | 0xC0#8 => some (.f2 .cpyImm)
  | 0xC1#8 => some (.f2 .cmpIndX)
  | 0xC4#8 => some (.f2 .cpyZp)
  | 0xC5#8 => some (.f2 .cmpZp)
  | 0xC6#8 => some (.f2 .decZp)
  | 0xC8#8 => some (.f1 .iny)
  | 0xC9#8 => some (.f2 .cmpImm)
  | 0xCA#8 => some (.f1 .dex)
  | 0xCC#8 => some (.f3 .cpyAbs)
  | 0xCD#8 => some (.f3 .cmpAbs)
  | 0xCE#8 => some (.f3 .decAbs)
  | 0xD0#8 => some (.f2 .bne)
  | 0xD1#8 => some (.f2 .cmpIndY)
  | 0xD5#8 => some (.f2 .cmpZpX)
  | 0xD6#8 => some (.f2 .decZpX)
  | 0xD8#8 => some (.f1 .cld)
  | 0xD9#8 => some (.f3 .cmpAbsY)
  | 0xDD#8 => some (.f3 .cmpAbsX)
  | 0xDE#8 => some (.f3 .decAbsX)
  | 0xE0#8 => some (.f2 .cpxImm)
  | 0xE1#8 => some (.f2 .sbcIndX)
  | 0xE4#8 => some (.f2 .cpxZp)
  | 0xE5#8 => some (.f2 .sbcZp)
  | 0xE6#8 => some (.f2 .incZp)
  | 0xE8#8 => some (.f1 .inx)
  | 0xE9#8 => some (.f2 .sbcImm)
  | 0xEA#8 => some (.f1 .nop)
  | 0xEC#8 => some (.f3 .cpxAbs)
  | 0xED#8 => some (.f3 .sbcAbs)
  | 0xEE#8 => some (.f3 .incAbs)
  | 0xF0#8 => some (.f2 .beq)
  | 0xF1#8 => some (.f2 .sbcIndY)
  | 0xF5#8 => some (.f2 .sbcZpX)
  | 0xF6#8 => some (.f2 .incZpX)
  | 0xF8#8 => some (.f1 .sed)
  | 0xF9#8 => some (.f3 .sbcAbsY)
  | 0xFD#8 => some (.f3 .sbcAbsX)
  | 0xFE#8 => some (.f3 .incAbsX)
  | _ => none

/-- Is the byte one of the 151 documented opcodes (R127, R128)? -/
def documented (opcode : Byte) : Bool := (opcodeTable opcode).isSome

/-- Why bytes are no instruction. -/
inductive DecodeError where
  /-- No byte at all. -/
  | noBytes
  /-- One of the 105 undocumented opcodes of R128. -/
  | undocumentedOpcode (opcode : Byte)
  /-- The operand bytes of a documented opcode are missing. -/
  | operandMissing (opcode : Byte)
deriving DecidableEq, Repr

/-- The instruction at the head of a list of bytes, and the bytes after it (R120 to R124). -/
def decode : List Byte → Except DecodeError (Instr × List Byte)
  | [] => .error .noBytes
  | op :: rest =>
    match opcodeTable op, rest with
    | none, _ => .error (.undocumentedOpcode op)
    | some (.f1 i), rest => .ok (i, rest)
    | some (.f2 make), b :: rest => .ok (make b, rest)
    | some (.f3 make), lo :: hi :: rest => .ok (make (word hi lo), rest)
    | some _, _ => .error (.operandMissing op)

/-- The bytes of an instruction in the order of their addresses (R120 to R124, R127). -/
def encode : Instr → List Byte
  | .ldaIndX op8 => [0xA1#8, op8]
  | .ldaZp op8 => [0xA5#8, op8]
  | .ldaImm data => [0xA9#8, data]
  | .ldaAbs addr => [0xAD#8, lowByte addr, highByte addr]
  | .ldaIndY op8 => [0xB1#8, op8]
  | .ldaZpX op8 => [0xB5#8, op8]
  | .ldaAbsY addr => [0xB9#8, lowByte addr, highByte addr]
  | .ldaAbsX addr => [0xBD#8, lowByte addr, highByte addr]
  | .ldxImm data => [0xA2#8, data]
  | .ldxZp op8 => [0xA6#8, op8]
  | .ldxAbs addr => [0xAE#8, lowByte addr, highByte addr]
  | .ldxZpY op8 => [0xB6#8, op8]
  | .ldxAbsY addr => [0xBE#8, lowByte addr, highByte addr]
  | .ldyImm data => [0xA0#8, data]
  | .ldyZp op8 => [0xA4#8, op8]
  | .ldyAbs addr => [0xAC#8, lowByte addr, highByte addr]
  | .ldyZpX op8 => [0xB4#8, op8]
  | .ldyAbsX addr => [0xBC#8, lowByte addr, highByte addr]
  | .staIndX op8 => [0x81#8, op8]
  | .staZp op8 => [0x85#8, op8]
  | .staAbs addr => [0x8D#8, lowByte addr, highByte addr]
  | .staIndY op8 => [0x91#8, op8]
  | .staZpX op8 => [0x95#8, op8]
  | .staAbsY addr => [0x99#8, lowByte addr, highByte addr]
  | .staAbsX addr => [0x9D#8, lowByte addr, highByte addr]
  | .stxZp op8 => [0x86#8, op8]
  | .stxAbs addr => [0x8E#8, lowByte addr, highByte addr]
  | .stxZpY op8 => [0x96#8, op8]
  | .styZp op8 => [0x84#8, op8]
  | .styAbs addr => [0x8C#8, lowByte addr, highByte addr]
  | .styZpX op8 => [0x94#8, op8]
  | .tax => [0xAA#8]
  | .tay => [0xA8#8]
  | .txa => [0x8A#8]
  | .tya => [0x98#8]
  | .tsx => [0xBA#8]
  | .txs => [0x9A#8]
  | .adcIndX op8 => [0x61#8, op8]
  | .adcZp op8 => [0x65#8, op8]
  | .adcImm data => [0x69#8, data]
  | .adcAbs addr => [0x6D#8, lowByte addr, highByte addr]
  | .adcIndY op8 => [0x71#8, op8]
  | .adcZpX op8 => [0x75#8, op8]
  | .adcAbsY addr => [0x79#8, lowByte addr, highByte addr]
  | .adcAbsX addr => [0x7D#8, lowByte addr, highByte addr]
  | .sbcIndX op8 => [0xE1#8, op8]
  | .sbcZp op8 => [0xE5#8, op8]
  | .sbcImm data => [0xE9#8, data]
  | .sbcAbs addr => [0xED#8, lowByte addr, highByte addr]
  | .sbcIndY op8 => [0xF1#8, op8]
  | .sbcZpX op8 => [0xF5#8, op8]
  | .sbcAbsY addr => [0xF9#8, lowByte addr, highByte addr]
  | .sbcAbsX addr => [0xFD#8, lowByte addr, highByte addr]
  | .andIndX op8 => [0x21#8, op8]
  | .andZp op8 => [0x25#8, op8]
  | .andImm data => [0x29#8, data]
  | .andAbs addr => [0x2D#8, lowByte addr, highByte addr]
  | .andIndY op8 => [0x31#8, op8]
  | .andZpX op8 => [0x35#8, op8]
  | .andAbsY addr => [0x39#8, lowByte addr, highByte addr]
  | .andAbsX addr => [0x3D#8, lowByte addr, highByte addr]
  | .oraIndX op8 => [0x01#8, op8]
  | .oraZp op8 => [0x05#8, op8]
  | .oraImm data => [0x09#8, data]
  | .oraAbs addr => [0x0D#8, lowByte addr, highByte addr]
  | .oraIndY op8 => [0x11#8, op8]
  | .oraZpX op8 => [0x15#8, op8]
  | .oraAbsY addr => [0x19#8, lowByte addr, highByte addr]
  | .oraAbsX addr => [0x1D#8, lowByte addr, highByte addr]
  | .eorIndX op8 => [0x41#8, op8]
  | .eorZp op8 => [0x45#8, op8]
  | .eorImm data => [0x49#8, data]
  | .eorAbs addr => [0x4D#8, lowByte addr, highByte addr]
  | .eorIndY op8 => [0x51#8, op8]
  | .eorZpX op8 => [0x55#8, op8]
  | .eorAbsY addr => [0x59#8, lowByte addr, highByte addr]
  | .eorAbsX addr => [0x5D#8, lowByte addr, highByte addr]
  | .cmpIndX op8 => [0xC1#8, op8]
  | .cmpZp op8 => [0xC5#8, op8]
  | .cmpImm data => [0xC9#8, data]
  | .cmpAbs addr => [0xCD#8, lowByte addr, highByte addr]
  | .cmpIndY op8 => [0xD1#8, op8]
  | .cmpZpX op8 => [0xD5#8, op8]
  | .cmpAbsY addr => [0xD9#8, lowByte addr, highByte addr]
  | .cmpAbsX addr => [0xDD#8, lowByte addr, highByte addr]
  | .cpxImm data => [0xE0#8, data]
  | .cpxZp op8 => [0xE4#8, op8]
  | .cpxAbs addr => [0xEC#8, lowByte addr, highByte addr]
  | .cpyImm data => [0xC0#8, data]
  | .cpyZp op8 => [0xC4#8, op8]
  | .cpyAbs addr => [0xCC#8, lowByte addr, highByte addr]
  | .bitZp op8 => [0x24#8, op8]
  | .bitAbs addr => [0x2C#8, lowByte addr, highByte addr]
  | .incZp op8 => [0xE6#8, op8]
  | .incAbs addr => [0xEE#8, lowByte addr, highByte addr]
  | .incZpX op8 => [0xF6#8, op8]
  | .incAbsX addr => [0xFE#8, lowByte addr, highByte addr]
  | .decZp op8 => [0xC6#8, op8]
  | .decAbs addr => [0xCE#8, lowByte addr, highByte addr]
  | .decZpX op8 => [0xD6#8, op8]
  | .decAbsX addr => [0xDE#8, lowByte addr, highByte addr]
  | .inx => [0xE8#8]
  | .iny => [0xC8#8]
  | .dex => [0xCA#8]
  | .dey => [0x88#8]
  | .aslZp op8 => [0x06#8, op8]
  | .aslA => [0x0A#8]
  | .aslAbs addr => [0x0E#8, lowByte addr, highByte addr]
  | .aslZpX op8 => [0x16#8, op8]
  | .aslAbsX addr => [0x1E#8, lowByte addr, highByte addr]
  | .lsrZp op8 => [0x46#8, op8]
  | .lsrA => [0x4A#8]
  | .lsrAbs addr => [0x4E#8, lowByte addr, highByte addr]
  | .lsrZpX op8 => [0x56#8, op8]
  | .lsrAbsX addr => [0x5E#8, lowByte addr, highByte addr]
  | .rolZp op8 => [0x26#8, op8]
  | .rolA => [0x2A#8]
  | .rolAbs addr => [0x2E#8, lowByte addr, highByte addr]
  | .rolZpX op8 => [0x36#8, op8]
  | .rolAbsX addr => [0x3E#8, lowByte addr, highByte addr]
  | .rorZp op8 => [0x66#8, op8]
  | .rorA => [0x6A#8]
  | .rorAbs addr => [0x6E#8, lowByte addr, highByte addr]
  | .rorZpX op8 => [0x76#8, op8]
  | .rorAbsX addr => [0x7E#8, lowByte addr, highByte addr]
  | .bcc off => [0x90#8, off]
  | .bcs off => [0xB0#8, off]
  | .beq off => [0xF0#8, off]
  | .bne off => [0xD0#8, off]
  | .bmi off => [0x30#8, off]
  | .bpl off => [0x10#8, off]
  | .bvc off => [0x50#8, off]
  | .bvs off => [0x70#8, off]
  | .jmpAbs addr => [0x4C#8, lowByte addr, highByte addr]
  | .jmpInd addr => [0x6C#8, lowByte addr, highByte addr]
  | .jsr addr => [0x20#8, lowByte addr, highByte addr]
  | .rts => [0x60#8]
  | .rti => [0x40#8]
  | .brk => [0x00#8]
  | .pha => [0x48#8]
  | .php => [0x08#8]
  | .pla => [0x68#8]
  | .plp => [0x28#8]
  | .clc => [0x18#8]
  | .cld => [0xD8#8]
  | .cli => [0x58#8]
  | .clv => [0xB8#8]
  | .sec => [0x38#8]
  | .sed => [0xF8#8]
  | .sei => [0x78#8]
  | .nop => [0xEA#8]

/-- The opcode byte of an instruction (R127). -/
def Instr.opcode (i : Instr) : Byte := (encode i).headD 0x00#8

/-- The n-th byte of a number, byte 0 the least significant. -/
def byteOf (w n : Nat) : Byte := BitVec.ofNat 8 (w / 256 ^ n)

/-- The three bytes an instruction of `nbits` bits can reach in memory: its own bits of `w`, the first
byte least significant, and zeros above them. -/
def tableBytes (nbits w : Nat) : List Byte :=
  let w := w % 2 ^ nbits
  [byteOf w 0, byteOf w 1, byteOf w 2]

/-- What the decoder reads from an instruction whose bits are numbered as spec/opcode_table.json
numbers them. -/
def decodeTableWord (nbits w : Nat) : Option Instr :=
  match decode (tableBytes nbits w) with
  | .ok (i, _) => some i
  | .error _ => none

end Sys2Proof
end

