-- ==== Sys2Proof/Machine/Form.lean ====
section
/-! DEFINITION. The form of an instruction: its operation and its addressing mode without the operand
bytes, which is what the opcode alone determines (R120) and what selects the cycle table (R153, R154). -/

namespace Sys2Proof.Machine

/-- The operations of access class `read` (R154). -/
inductive ReadOp where
  | lda | ldx | ldy | adc | sbc | and | ora | eor | cmp | cpx | cpy | bit
deriving DecidableEq, Repr

/-- The register a `write`-class instruction stores (R154). -/
inductive StoreReg where
  | a | x | y
deriving DecidableEq, Repr

/-- The operations of access class `rmw` (R154). -/
inductive RmwOp where
  | inc | dec | asl | lsr | rol | ror
deriving DecidableEq, Repr

/-- The two-cycle operations on registers and flags, the Accumulator forms among them (R155, R156, R167). -/
inductive ImpliedOp where
  | tax | tay | txa | tya | tsx | txs
  | inx | iny | dex | dey
  | aslA | lsrA | rolA | rorA
  | clc | cld | cli | clv | sec | sed | sei | nop
deriving DecidableEq, Repr

/-- The branch conditions (R291 to R298). -/
inductive Cond where
  | cc | cs | eq | ne | mi | pl | vc | vs
deriving DecidableEq, Repr

/-- What PHA and PHP push, and PLA and PLP pull: the accumulator or the status (R320 to R323). -/
inductive StackReg where
  | a | p
deriving DecidableEq, Repr

/-- The addressing modes that give a memory or immediate operand (R157 to R164). -/
inductive Mode where
  | imm | zp | zpX | zpY | abs | absX | absY | indX | indY
deriving DecidableEq, Repr

/-- Operation and addressing mode of an instruction. -/
inductive Form where
  | read (op : ReadOp) (m : Mode)
  | write (r : StoreReg) (m : Mode)
  | rmw (op : RmwOp) (m : Mode)
  | implied (op : ImpliedOp)
  | branch (c : Cond)
  | jmpAbs | jmpInd | jsr | rts | rti | brk
  | push (r : StackReg)
  | pull (r : StackReg)
deriving DecidableEq, Repr

/-- The form of each instruction: the "mnemonic", "mode" and "access class" columns of R127. -/
def formOf : Instr → Form
  | .ldaIndX _ => .read .lda .indX
  | .ldaZp _ => .read .lda .zp
  | .ldaImm _ => .read .lda .imm
  | .ldaAbs _ => .read .lda .abs
  | .ldaIndY _ => .read .lda .indY
  | .ldaZpX _ => .read .lda .zpX
  | .ldaAbsY _ => .read .lda .absY
  | .ldaAbsX _ => .read .lda .absX
  | .ldxImm _ => .read .ldx .imm
  | .ldxZp _ => .read .ldx .zp
  | .ldxAbs _ => .read .ldx .abs
  | .ldxZpY _ => .read .ldx .zpY
  | .ldxAbsY _ => .read .ldx .absY
  | .ldyImm _ => .read .ldy .imm
  | .ldyZp _ => .read .ldy .zp
  | .ldyAbs _ => .read .ldy .abs
  | .ldyZpX _ => .read .ldy .zpX
  | .ldyAbsX _ => .read .ldy .absX
  | .staIndX _ => .write .a .indX
  | .staZp _ => .write .a .zp
  | .staAbs _ => .write .a .abs
  | .staIndY _ => .write .a .indY
  | .staZpX _ => .write .a .zpX
  | .staAbsY _ => .write .a .absY
  | .staAbsX _ => .write .a .absX
  | .stxZp _ => .write .x .zp
  | .stxAbs _ => .write .x .abs
  | .stxZpY _ => .write .x .zpY
  | .styZp _ => .write .y .zp
  | .styAbs _ => .write .y .abs
  | .styZpX _ => .write .y .zpX
  | .tax => .implied .tax
  | .tay => .implied .tay
  | .txa => .implied .txa
  | .tya => .implied .tya
  | .tsx => .implied .tsx
  | .txs => .implied .txs
  | .adcIndX _ => .read .adc .indX
  | .adcZp _ => .read .adc .zp
  | .adcImm _ => .read .adc .imm
  | .adcAbs _ => .read .adc .abs
  | .adcIndY _ => .read .adc .indY
  | .adcZpX _ => .read .adc .zpX
  | .adcAbsY _ => .read .adc .absY
  | .adcAbsX _ => .read .adc .absX
  | .sbcIndX _ => .read .sbc .indX
  | .sbcZp _ => .read .sbc .zp
  | .sbcImm _ => .read .sbc .imm
  | .sbcAbs _ => .read .sbc .abs
  | .sbcIndY _ => .read .sbc .indY
  | .sbcZpX _ => .read .sbc .zpX
  | .sbcAbsY _ => .read .sbc .absY
  | .sbcAbsX _ => .read .sbc .absX
  | .andIndX _ => .read .and .indX
  | .andZp _ => .read .and .zp
  | .andImm _ => .read .and .imm
  | .andAbs _ => .read .and .abs
  | .andIndY _ => .read .and .indY
  | .andZpX _ => .read .and .zpX
  | .andAbsY _ => .read .and .absY
  | .andAbsX _ => .read .and .absX
  | .oraIndX _ => .read .ora .indX
  | .oraZp _ => .read .ora .zp
  | .oraImm _ => .read .ora .imm
  | .oraAbs _ => .read .ora .abs
  | .oraIndY _ => .read .ora .indY
  | .oraZpX _ => .read .ora .zpX
  | .oraAbsY _ => .read .ora .absY
  | .oraAbsX _ => .read .ora .absX
  | .eorIndX _ => .read .eor .indX
  | .eorZp _ => .read .eor .zp
  | .eorImm _ => .read .eor .imm
  | .eorAbs _ => .read .eor .abs
  | .eorIndY _ => .read .eor .indY
  | .eorZpX _ => .read .eor .zpX
  | .eorAbsY _ => .read .eor .absY
  | .eorAbsX _ => .read .eor .absX
  | .cmpIndX _ => .read .cmp .indX
  | .cmpZp _ => .read .cmp .zp
  | .cmpImm _ => .read .cmp .imm
  | .cmpAbs _ => .read .cmp .abs
  | .cmpIndY _ => .read .cmp .indY
  | .cmpZpX _ => .read .cmp .zpX
  | .cmpAbsY _ => .read .cmp .absY
  | .cmpAbsX _ => .read .cmp .absX
  | .cpxImm _ => .read .cpx .imm
  | .cpxZp _ => .read .cpx .zp
  | .cpxAbs _ => .read .cpx .abs
  | .cpyImm _ => .read .cpy .imm
  | .cpyZp _ => .read .cpy .zp
  | .cpyAbs _ => .read .cpy .abs
  | .bitZp _ => .read .bit .zp
  | .bitAbs _ => .read .bit .abs
  | .incZp _ => .rmw .inc .zp
  | .incAbs _ => .rmw .inc .abs
  | .incZpX _ => .rmw .inc .zpX
  | .incAbsX _ => .rmw .inc .absX
  | .decZp _ => .rmw .dec .zp
  | .decAbs _ => .rmw .dec .abs
  | .decZpX _ => .rmw .dec .zpX
  | .decAbsX _ => .rmw .dec .absX
  | .inx => .implied .inx
  | .iny => .implied .iny
  | .dex => .implied .dex
  | .dey => .implied .dey
  | .aslZp _ => .rmw .asl .zp
  | .aslA => .implied .aslA
  | .aslAbs _ => .rmw .asl .abs
  | .aslZpX _ => .rmw .asl .zpX
  | .aslAbsX _ => .rmw .asl .absX
  | .lsrZp _ => .rmw .lsr .zp
  | .lsrA => .implied .lsrA
  | .lsrAbs _ => .rmw .lsr .abs
  | .lsrZpX _ => .rmw .lsr .zpX
  | .lsrAbsX _ => .rmw .lsr .absX
  | .rolZp _ => .rmw .rol .zp
  | .rolA => .implied .rolA
  | .rolAbs _ => .rmw .rol .abs
  | .rolZpX _ => .rmw .rol .zpX
  | .rolAbsX _ => .rmw .rol .absX
  | .rorZp _ => .rmw .ror .zp
  | .rorA => .implied .rorA
  | .rorAbs _ => .rmw .ror .abs
  | .rorZpX _ => .rmw .ror .zpX
  | .rorAbsX _ => .rmw .ror .absX
  | .bcc _ => .branch .cc
  | .bcs _ => .branch .cs
  | .beq _ => .branch .eq
  | .bne _ => .branch .ne
  | .bmi _ => .branch .mi
  | .bpl _ => .branch .pl
  | .bvc _ => .branch .vc
  | .bvs _ => .branch .vs
  | .jmpAbs _ => .jmpAbs
  | .jmpInd _ => .jmpInd
  | .jsr _ => .jsr
  | .rts => .rts
  | .rti => .rti
  | .brk => .brk
  | .pha => .push .a
  | .php => .push .p
  | .pla => .pull .a
  | .plp => .pull .p
  | .clc => .implied .clc
  | .cld => .implied .cld
  | .cli => .implied .cli
  | .clv => .implied .clv
  | .sec => .implied .sec
  | .sed => .implied .sed
  | .sei => .implied .sei
  | .nop => .implied .nop

/-- The form an opcode selects after c1 (R153); `none` for an undocumented one (R128). -/
def formOfOpcode (opcode : Byte) : Option Form :=
  match opcodeTable opcode with
  | some (.f1 i) => some (formOf i)
  | some (.f2 make) => some (formOf (make 0x00#8))
  | some (.f3 make) => some (formOf (make 0x0000#16))
  | none => none

end Sys2Proof.Machine
end

