-- ==== Sys2Proof/Machine/BusMap.lean ====
section
/-! DEFINITION. The bus's dispatch of a bus address to the owning chip (R72, R74). -/

namespace Sys2Proof.Machine

/-- `BUS_MAP(a14)`: the owning chip and the chip-relative offset `a14 − base`.  In a valid map exactly
one range holds the address (R74); an address no range holds, which a valid map excludes (R88, R521), is
treated as unconnected. -/
def owner : List Region → Nat → ChipKind × Nat
  | [], a => (.unconnected, a)
  | r :: rest, a => if r.base ≤ a ∧ a < r.base + r.size then (r.chip, a - r.base) else owner rest a

end Sys2Proof.Machine
end

