-- ==== Sys2Proof/Machine/Pia.lean ====
section
/-! DEFINITION. The PIA: registers, reads, writes and external inputs (55_pia.md). -/

namespace Sys2Proof.Machine

/-- The two ports (R470). -/
inductive PortId where
  | a | b
deriving DecidableEq, Repr

def Pia.port (p : Pia) : PortId → Port
  | .a => p.portA
  | .b => p.portB

def Pia.setPort (p : Pia) : PortId → Port → Pia
  | .a, q => { p with portA := q }
  | .b, q => { p with portB := q }

/-- The register an offset selects, `rs = o & 3` (R471, R472): its port, and whether it is the port's
control register. -/
def piaSelect (o : Nat) : PortId × Bool :=
  (if o % 4 < 2 then .a else .b, decide (o % 2 = 1))

/-- `EXT_A`: the dip switches on bits 6..0, joystick-signal bit 7 inverted on bit 7 (R477). -/
def extA (dip : BitVec 7) (sig : Byte) : Byte :=
  (dip.setWidth 8 &&& 0x7F#8) ||| (if sig.getLsbD 7 then 0x00#8 else 0x80#8)

/-- `EXT_B = SIG & 0x7F` (R478). -/
def extB (sig : Byte) : Byte := sig &&& 0x7F#8

/-- The externally driven pins of a port (R477, R478). -/
def ext (dip : BitVec 7) (sig : Byte) : PortId → Byte
  | .a => extA dip sig
  | .b => extB sig

/-- A read of a control register: `(C2 << 3) | (ACC << 2) | C1`, bits 7 and 6 zero (R473, R474). -/
def Port.control (p : Port) : Byte :=
  0b00#2 ++ p.c2 ++ (if p.acc then 1#1 else 0#1) ++ p.c1

/-- A read of a primary register: `EXT & ~DDR` in output-access mode, else the direction register (R474). -/
def Port.primary (p : Port) (extern : Byte) : Byte :=
  if p.acc then extern &&& ~~~p.ddr else p.ddr

/-- `pinUpdate` (R476). -/
def Port.pinUpdate (p : Port) : Port :=
  { p with pins := (p.pins &&& ~~~p.ddr) ||| (p.out &&& p.ddr) }

/-- A write of a control register (R473, R475), before the pin update. -/
def Port.writeControl (p : Port) (v : Byte) : Port :=
  { p with c1 := v.extractLsb' 0 2, acc := v.getLsbD 2, c2 := v.extractLsb' 3 3 }

/-- A write of a primary register (R475), before the pin update. -/
def Port.writePrimary (p : Port) (v : Byte) : Port :=
  if p.acc then { p with out := v } else { p with ddr := v }

/-- PIA read (R474): no state changes. -/
def Pia.read (p : Pia) (dip : BitVec 7) (sig : Byte) (o : Nat) : Byte :=
  match piaSelect o with
  | (q, true) => (p.port q).control
  | (q, false) => (p.port q).primary (ext dip sig q)

/-- PIA write, with the pin update of the addressed port (R475). -/
def Pia.write (p : Pia) (o : Nat) (v : Byte) : Pia :=
  match piaSelect o with
  | (q, true) => p.setPort q ((p.port q).writeControl v).pinUpdate
  | (q, false) => p.setPort q ((p.port q).writePrimary v).pinUpdate

/-- The PIA's cycle step: a no-op (R479). -/
def Pia.step (p : Pia) : Pia := p

end Sys2Proof.Machine
end

