-- ==== Sys2Proof/Machine/Vic.lean ====
section
/-! DEFINITION. The VIC as a chip and its raster engine, but for the bus fetches (50_vic.md). -/

namespace Sys2Proof.Machine

/-- VIC read: the register byte, or `lastFetch` where no register matches (R400, R418). -/
def Vic.read (w : Vic) (o : Nat) : Byte := if h : o < 16 then w.reg[o] else w.lastFetch

/-- VIC write: store the byte and recompute the derived fields and the multicolour table; ignored where
no register matches (R419, R434). -/
def Vic.write (c : Config) (w : Vic) (o : Nat) (v : Byte) : Vic :=
  if h : o < 16 then
    let reg := w.reg.set o v
    { w with reg := reg, derived := derive c reg, mc := multicolour (derive c reg) w.cellColour }
  else w

/-- The other frame of the two. -/
def FrameId.other : FrameId → FrameId
  | .zero => .one
  | .one => .zero

def Vic.frame (w : Vic) : FrameId → Frame
  | .zero => w.frame0
  | .one => w.frame1

def Vic.setFrame (w : Vic) : FrameId → Frame → Vic
  | .zero, f => { w with frame0 := f }
  | .one, f => { w with frame1 := f }

/-- The raster mirror `mirror(x)` (R423); no derived field depends on what it writes. -/
def Vic.mirror (w : Vic) (x : Nat) : Vic :=
  let low := (w.reg[3] &&& 0x7F#8) ||| (if x % 2 = 1 then 0x80#8 else 0x00#8)
  { w with reg := (w.reg.set 4 (BitVec.ofNat 8 (x / 2))).set 3 low }

/-- `emit(c)` (R431), `limit` being `W * H`. -/
def Vic.emit (limit : Nat) (w : Vic) (c : BitVec 4) : Vic :=
  let f := w.frame w.active
  let pixels := if w.pixelCursor < limit then f.pixels.set w.pixelCursor c else f.pixels
  { w.setFrame w.active { f with pixels := pixels } with pixelCursor := w.pixelCursor + 1 }

/-- Emit pixels in order. -/
def Vic.emitAll (limit : Nat) (w : Vic) (cs : List (BitVec 4)) : Vic := cs.foldl (Vic.emit limit) w

/-- `frameEnd()` (R424). -/
def Vic.frameEnd (w : Vic) : Vic :=
  let w := w.setFrame w.active { w.frame w.active with ready := true }
  let next := w.active.other
  let w := w.setFrame next { w.frame next with ready := false }
  { w with matrixCounter := 0#16, rowStart := 0#16, cellDepth := 0, pixelCursor := 0, active := next }

/-- `lineAdvance(lineV)` (R425). -/
def Vic.lineAdvance (policy : RowAdvance) (w : Vic) (lineV : Nat) : Vic :=
  if policy = .everyLine ∨ (w.derived.screenTop ≤ lineV ∧ lineV < w.derived.screenBottom) then
    if w.derived.charSize ≤ w.cellDepth + 1 then
      let next := w.rowStart + BitVec.ofNat 16 w.derived.columns
      { w with cellDepth := 0, rowStart := next, matrixCounter := next }
    else { w with cellDepth := w.cellDepth + 1, matrixCounter := w.rowStart }
  else w

/-- Does the cycle that starts in this state end a line (R421)? -/
def Vic.endsLine (p : Profile) (w : Vic) : Bool := decide (p.width ≤ w.h + 4)

/-- Does the cycle that starts in this state complete the frame: the value both cycle-step entry points
return (R420, R422)? -/
def Vic.endsFrame (p : Profile) (w : Vic) : Bool := w.endsLine p && decide (p.height ≤ w.v + 1)

/-- The horizontal and vertical advance at the end of every VIC step (R421). -/
def Vic.advance (c : Config) (p : Profile) (render : Bool) (w : Vic) : Vic :=
  if w.endsLine p then
    let wrapped := decide (p.height ≤ w.v + 1)
    let moved := { w with h := 0, v := if wrapped then 0 else w.v + 1 }.mirror (w.v + 1)
    if render then
      let moved := { moved with fetchToggle := .screenCode }
      if wrapped then moved.frameEnd else moved.lineAdvance c.rowAdvance w.v
    else moved
  else { w with h := w.h + 4 }

/-- `inWindow(h, v)` (R428). -/
def Vic.inWindow (w : Vic) : Bool :=
  decide (w.derived.screenLeft ≤ w.h ∧ w.h < w.derived.screenRight
    ∧ w.derived.screenTop ≤ w.v ∧ w.v < w.derived.screenBottom)

/-- What a render-path cycle does (R427): blank, screen-code fetch, character-data fetch or border. -/
inductive VicCycle where
  | blank | screenCode | charData | border
deriving DecidableEq, Repr

/-- The classification of R427, from the state at the start of the VIC step. -/
def Vic.cycleKind (p : Profile) (w : Vic) : VicCycle :=
  if w.v < p.vblank then .blank
  else if w.inWindow then
    match w.fetchToggle with
    | .screenCode => .screenCode
    | .charData => .charData
  else .border

/-- The addresses of the screen-code and colour fetches (R429). -/
def Vic.codeAddr (w : Vic) : Word := w.derived.videoStart + w.matrixCounter

def Vic.colourAddr (w : Vic) : Word := w.derived.colourStart + w.matrixCounter

/-- The address of the character-data fetch, `charStart + (cellCode << charShift) + cellDepth` (R430). -/
def Vic.charAddr (w : Vic) : Word :=
  w.derived.charStart + (w.cellCode.setWidth 16 <<< w.derived.charShift) + BitVec.ofNat 16 w.cellDepth

/-- The screen-code fetch given the two bytes read (R429); the multicolour table follows the cell's
colour (R434). -/
def Vic.takeCode (w : Vic) (code colour : Byte) : Vic :=
  { w with cellCode := code, cellColour := colour.extractLsb' 0 4, lastFetch := code
           mc := multicolour w.derived (colour.extractLsb' 0 4)
           matrixCounter := w.matrixCounter + 1, fetchToggle := .charData }

/-- The colour of one bit of a character byte (R430). -/
def Vic.bitColour (w : Vic) (b : Byte) (i : Nat) : BitVec 4 :=
  if b.getLsbD i then w.cellColour else w.derived.backgroundColour

/-- The character-data fetch given the byte read (R430): bits 7..4, then bits 3..0 if the line goes on. -/
def Vic.takeChar (p : Profile) (w : Vic) (b : Byte) : Vic :=
  let bits := if w.h + 4 < p.width then [7, 6, 5, 4, 3, 2, 1, 0] else [7, 6, 5, 4]
  { w.emitAll (p.width * p.height) (bits.map (w.bitColour b)) with
    lastFetch := b, fetchToggle := .screenCode }

/-- The border cycle given the byte read (R432). -/
def Vic.takeBorder (p : Profile) (w : Vic) (b : Byte) : Vic :=
  { w.emitAll (p.width * p.height) (List.replicate 4 w.derived.borderColour) with lastFetch := b }

end Sys2Proof.Machine
end

