-- ==== Sys2Proof/Machine/Bus.lean ====
section
/-! DEFINITION. The bus: one read or write cycle reaches exactly one chip (R70 to R82, R90 to R94). -/

namespace Sys2Proof.Machine

/-- The machine with another processor state. -/
def State.withCpu (s : State) (c : Cpu) : State := { s with cpu := c }

/-- The chip that owns a CPU address, and the offset it sees (R71, R72). -/
def State.chipAt (s : State) (a : Word) : ChipKind × Nat := owner s.cfg.busMap (busAddr a)

/-- The cell of a storage chip under a CPU address (R71, R76, R77, R79). -/
def State.cell (s : State) (a : Word) : Byte := Cells.get s.mem (busAddr a)

/-- The byte a bus read of a CPU address returns in this state (R72, R76 to R82).  A drawn value is the
one of the next draw. -/
def State.readByte (s : State) (a : Word) : Byte :=
  match s.chipAt a with
  | (.ram, _) => s.cell a
  | (.rom, _) => s.cell a
  | (.nibbleRam, _) =>
    (match s.cfg.nibbleUpper with | .zero => 0#4 | .draw => Config.drawnNibble s.draws)
      ++ (s.cell a).extractLsb' 0 4
  | (.unconnected, _) => Config.openBus s.draws
  | (.vic, o) => s.vic.read o
  | (.pia, o) => s.pia.read s.cfg.dipSwitches s.sig o

/-- Does a read of the address draw a free value (R78, R80)? -/
def State.drawsAt (s : State) (a : Word) : Bool :=
  match (s.chipAt a).1 with
  | .unconnected => true
  | .nibbleRam => s.cfg.nibbleUpper == .draw
  | _ => false

/-- The state after a bus read: reads change no chip (R92), only the count of draws moves on. -/
def State.afterRead (s : State) (a : Word) : State :=
  { s with draws := if s.drawsAt a then s.draws + 1 else s.draws }

/-- The memory cells after a bus write (R73, R76, R77, R79, R80). -/
def State.memAfterWrite (s : State) (a : Word) (v : Byte) : Memory :=
  match (s.chipAt a).1 with
  | .ram => Cells.set s.mem (busAddr a) v
  | .nibbleRam => Cells.set s.mem (busAddr a) (v &&& 0x0F#8)
  | _ => s.mem

/-- The VIC after a bus write (R81). -/
def State.vicAfterWrite (s : State) (a : Word) (v : Byte) : Vic :=
  match s.chipAt a with
  | (.vic, o) => s.vic.write s.cfg o v
  | _ => s.vic

/-- The PIA after a bus write (R82). -/
def State.piaAfterWrite (s : State) (a : Word) (v : Byte) : Pia :=
  match s.chipAt a with
  | (.pia, o) => s.pia.write o v
  | _ => s.pia

/-- One bus write cycle (R73). -/
def State.writeByte (s : State) (a : Word) (v : Byte) : State :=
  { s with mem := s.memAfterWrite a v, vic := s.vicAfterWrite a v, pia := s.piaAfterWrite a v }

end Sys2Proof.Machine
end

