-- ==== Sys2Proof/Machine/Raster.lean ====
section
/-! DEFINITION. The VIC's cycle step with its bus fetches (R420 to R433). -/

namespace Sys2Proof.Machine

/-- The bus addresses the VIC reads in a render-path cycle, in order (R427, R429, R430, R432). -/
def State.vicFetches (s : State) : List Word :=
  match s.vic.cycleKind s.profile with
  | .blank => []
  | .screenCode => [s.vic.codeAddr, s.vic.colourAddr]
  | .charData => [s.vic.charAddr]
  | .border => [s.cfg.borderFetch]

/-- The VIC after the fetches and pixels of a render-path cycle, before the advance (R427 to R432). -/
def State.vicRendered (s : State) : Vic :=
  match s.vic.cycleKind s.profile with
  | .blank => s.vic
  | .screenCode =>
    s.vic.takeCode (s.readByte s.vic.codeAddr)
      ((s.afterRead s.vic.codeAddr).readByte s.vic.colourAddr)
  | .charData => s.vic.takeChar s.profile (s.readByte s.vic.charAddr)
  | .border => s.vic.takeBorder s.profile (s.readByte s.cfg.borderFetch)

/-- How many free values the fetches of a render-path cycle draw. -/
def State.vicDraws (s : State) : Nat := (s.vicFetches.filter s.drawsAt).length

/-- `stepWithRender()` (R420, R421, R427 to R432). -/
def State.vicStepWithRender (s : State) : State :=
  { s with vic := s.vicRendered.advance s.cfg s.profile true, draws := s.draws + s.vicDraws }

/-- `stepSkippingRender()` (R433). -/
def State.vicStepSkippingRender (s : State) : State :=
  { s with vic := s.vic.advance s.cfg s.profile false }

/-- The VIC's part of a machine cycle, by the path the host has chosen (R501). -/
def State.vicStep (s : State) : State :=
  if s.skipRender then s.vicStepSkippingRender else s.vicStepWithRender

/-- The PIA's part of a machine cycle (R479, R501). -/
def State.piaStep (s : State) : State := { s with pia := s.pia.step }

end Sys2Proof.Machine
end

