-- ==== Sys2Proof/Machine/Ops.lean ====
section
/-! DEFINITION. The named operations: one CPU cycle as a row of a cycle table (R17, R151), the sequence
of cycles, pushing and pulling (R32), taking an exception (R303, R601, R606) and returning from one
(R302, R609), and the reset sequence (R703). -/

namespace Sys2Proof.Machine

/-! ### Registers and latches -/

/-- Advance PC past one byte of the instruction stream (R33, R150). -/
def Cpu.incPc (c : Cpu) : Cpu := { c with regs := { c.regs with pc := c.regs.pc + 1 } }

def Cpu.setPc (c : Cpu) (w : Word) : Cpu := { c with regs := { c.regs with pc := w } }

/-- Apply an operation to the registers. -/
def Cpu.mapRegs (c : Cpu) (f : Regs → Regs) : Cpu := { c with regs := f c.regs }

/-- Apply an update to the latches. -/
def Cpu.latch (c : Cpu) (f : Micro → Micro) : Cpu := { c with micro := f c.micro }

/-- `S <- S − 1` and `S <- S + 1`, modulo 256 (R32). -/
def Cpu.decS (c : Cpu) : Cpu := { c with regs := { c.regs with s := c.regs.s - 1 } }
def Cpu.incS (c : Cpu) : Cpu := { c with regs := { c.regs with s := c.regs.s + 1 } }

/-- The address the stack pointer points to, `STK(S)` (R32). -/
def Cpu.stk (c : Cpu) : Word := stackAddr c.regs.s

/-! ### One row of a cycle table -/

/-- The one bus access of a CPU cycle (R17, R151). -/
inductive Access where
  | read (a : Word)
  | write (a : Word) (v : Byte)
deriving DecidableEq, Repr

/-- One row of a cycle table (R17): the bus access, the internal updates at the end of the cycle given
the byte read, whether the row ends the sequence early, and whether it fetches a byte of the
instruction stream. -/
structure Row where
  access : Cpu → Access
  update : Byte → Cpu → Cpu
  last   : Byte → Cpu → Bool := fun _ _ => false
  stream : Bool := false

/-- The byte an access returns: the bus's for a read; a write returns none, and no row uses it. -/
def State.accessByte (s : State) : Access → Byte
  | .read a => s.readByte a
  | .write _ _ => 0x00#8

/-- The machine after a bus access of the CPU (R72, R73). -/
def State.perform (s : State) : Access → State
  | .read a => s.afterRead a
  | .write a v => s.writeByte a v

/-- Close a cycle (R151): count it, or return to an instruction boundary after a sequence's last row. -/
def Cpu.endCycle (c : Cpu) (done : Bool) : Cpu :=
  if done then c.latch fun m => { m with cyc := 0, seq := .instr }
  else c.latch fun m => { m with cyc := m.cyc + 1 }

/-- The CPU's part of a machine cycle (R151): one bus access, then the row's updates.  `given` replaces
the byte read; a meaning gives the bytes of its own instruction so (R105, R179). -/
def State.rowStep (s : State) (r : Row) (given : Option Byte) (final : Bool) : State :=
  let acc := r.access s.cpu
  let b := given.getD (s.accessByte acc)
  (s.perform acc).withCpu ((r.update b s.cpu).endCycle (final || r.last b s.cpu))

/-- One machine cycle in which the CPU runs a given row: VIC, CPU, PIA (R501). -/
def State.rowCycle (s : State) (r : Row) (given : Option Byte) (final : Bool) : State :=
  (s.vicStep.rowStep r given final).piaStep

/-- Run the rows of a sequence, one machine cycle each, until its last row.  `stream` holds the bytes of
the instruction: each row that fetches one takes the next. -/
def State.runRows : List Row → List Byte → State → State
  | [], _, s => s
  | r :: rest, stream, s =>
    let t := s.rowCycle r (if r.stream then stream.head? else none) rest.isEmpty
    if t.cpu.micro.cyc = 0 then t
    else State.runRows rest (if r.stream then stream.tail else stream) t

/-- Start a sequence at cycle c1 (R37, R151). -/
def Cpu.startSeq (c : Cpu) (q : Seq) : Cpu := c.latch fun m => { m with cyc := 0, seq := q }

def State.startSeq (s : State) (q : Seq) : State := s.withCpu (s.cpu.startSeq q)

/-! ### Rows shared by many tables -/

/-- The opcode fetch c1: `R(PC) -> IR`, PC+1 (R150). -/
def fetchRow : Row :=
  { access := fun c => .read c.regs.pc
    update := fun b c => (c.latch fun m => { m with ir := b }).incPc
    stream := true }

/-- The opcode fetch with the dispatch of R153: an undocumented opcode under the policy `fault` records
`Fault(IllegalOpcode, PC − 1, IR)` at the end of c1, and no further cycle occurs (R613). -/
def opcodeRow (policy : IllegalPolicy) : Row :=
  { access := fun c => .read c.regs.pc
    update := fun b c =>
      let d := (c.latch fun m => { m with ir := b }).incPc
      if policy = .fault ∧ documented b = false then
        { d with fault := some (.illegalOpcode c.regs.pc b) }
      else d
    last := fun b _ => decide (policy = .fault ∧ documented b = false)
    stream := true }

/-- An operand fetch: `R(PC)` into a latch, PC+1 (R150). -/
def operandRow (f : Byte → Micro → Micro) : Row :=
  { access := fun c => .read c.regs.pc
    update := fun b c => (c.latch (f b)).incPc
    stream := true }

/-- `R(PC)`, dummy, PC unchanged. -/
def dummyPcRow : Row := { access := fun c => .read c.regs.pc, update := fun _ c => c }

/-- `R(STK(S))`, dummy, with an update. -/
def dummyStackRow (f : Cpu → Cpu) : Row := { access := fun c => .read c.stk, update := fun _ c => f c }

/-- A push: `W(STK(S), value)`, S − 1 (R32). -/
def pushRow (value : Cpu → Byte) : Row :=
  { access := fun c => .write c.stk (value c), update := fun _ c => c.decS }

/-- A pull cycle: `R(STK(S))` into an update (R32). -/
def pullRow (f : Byte → Cpu → Cpu) : Row := { access := fun c => .read c.stk, update := f }

/-! ### Taking an exception and returning from one -/

/-- The vector of an interrupt kind; IRQ shares BRK's (R605). -/
def vectorOf : IntKind → Word
  | .nmi => 0xFFFA#16
  | .irq => 0xFFFE#16

/-- TAKING AN EXCEPTION, shared by BRK, IRQ and NMI (c3 to c7 of R303 and R606): push PC high, PC low
and `pack(P, brk)`, set I with the read of the vector's low byte, and load PC from the vector. -/
def exceptionRows (brk : Bool) (vector : Word) : List Row :=
  [ pushRow fun c => highByte c.regs.pc,
    pushRow fun c => lowByte c.regs.pc,
    pushRow fun c => c.regs.p.pack brk,
    { access := fun _ => .read vector
      update := fun b c => (c.latch fun m => { m with adl := b }).mapRegs
        fun q => { q with p := { q.p with i := true } } },
    { access := fun _ => .read (vector + 1)
      update := fun b c => (c.latch fun m => { m with adh := b }).setPc (word b c.micro.adl) } ]

/-- T-BRK (R303): the padding byte is read and skipped. -/
def brkRows : List Row :=
  fetchRow :: { access := fun c => .read c.regs.pc, update := fun _ c => c.incPc }
    :: exceptionRows true 0xFFFE#16

/-- The interrupt sequence (R606): the opcode is discarded and PC stays. -/
def interruptRows (k : IntKind) : List Row :=
  dummyPcRow :: dummyPcRow :: exceptionRows false (vectorOf k)

/-- T-RTI (R302): THE RETURN FROM AN EXCEPTION restores P and PC, without adding 1 (R609). -/
def rtiRows : List Row :=
  [ fetchRow, dummyPcRow, dummyStackRow Cpu.incS,
    pullRow fun b c => ((c.latch fun m => { m with data := b }).mapRegs
      fun q => { q with p := Flags.unpack b }).incS,
    pullRow fun b c => (c.latch fun m => { m with adl := b }).incS,
    pullRow fun b c => (c.latch fun m => { m with adh := b }).setPc (word b c.micro.adl) ]

/-- Accept an interrupt at an instruction boundary (R604): the pending NMI is cleared. -/
def Cpu.acceptInterrupt (c : Cpu) (k : IntKind) : Cpu :=
  let d := c.startSeq (.interrupt k)
  match k with
  | .nmi => { d with nmiPending := false }
  | .irq => d

/-- The interrupt sequence of R606, from an instruction boundary to the handler's first instruction. -/
def State.takeInterrupt (s : State) (k : IntKind) : State :=
  State.runRows (interruptRows k) [] (s.withCpu (s.cpu.acceptInterrupt k))

/-- A new level of the NMI line (R607): the edge from inactive to active sets `nmiPending`.  No
operation of this machine calls it, because no device drives the line (R603). -/
def Cpu.driveNmi (c : Cpu) (level : Bool) : Cpu :=
  { c with nmiLine := level, nmiPending := c.nmiPending || (level && !c.nmiLine) }

/-! ### Reset -/

/-- The seven cycles of the reset sequence for `RESET_CYCLES = 7` (R703), `sp` being `RESET_SP`. -/
def resetRows (sp : Byte) : List Row :=
  [ dummyPcRow, dummyPcRow,
    { access := fun _ => .read (stackAddr (sp + 3)), update := fun _ c => c },
    { access := fun _ => .read (stackAddr (sp + 2)), update := fun _ c => c },
    { access := fun _ => .read (stackAddr (sp + 1)), update := fun _ c => c },
    { access := fun _ => .read 0xFFFC#16
      update := fun b c => (c.latch fun m => { m with adl := b }).mapRegs
        fun q => { q with p := { q.p with i := true } } },
    { access := fun _ => .read 0xFFFD#16
      update := fun b c => ((c.latch fun m => { m with adh := b }).setPc (word b c.micro.adl)).mapRegs
        fun q => { q with s := sp } } ]

/-- The reset vector as the bus gives it (R701). -/
def State.resetVector (s : State) : Word := word (s.readByte 0xFFFD#16) (s.readByte 0xFFFC#16)

/-- The CPU reset (R701 to R703): the fault record is cleared and the running sequence abandoned; with
`RESET_CYCLES = 0` PC, S and I are set at once, with 7 the reset sequence is started.  IR and the latches,
which R37 calls unspecified at reset, keep their values. DESIGN CHOICE (log entry 1), unsafe.  PC, S and I
before the cycles of the seven-cycle sequence that write them: log entry 15. -/
def State.cpuReset (s : State) : State :=
  let c := { s.cpu with fault := none }
  match s.cfg.resetCycles with
  | .none =>
    s.withCpu ((c.startSeq .instr).mapRegs fun q =>
      { q with pc := s.resetVector, s := s.cfg.resetSp, p := { q.p with i := true } })
  | .seven => s.withCpu (c.startSeq .reset)

end Sys2Proof.Machine
end

