-- ==== Sys2Proof/Machine/Operands.lean ====
section
/-! DEFINITION. Every addressing mode and cycle table (R155 to R178, R290, R299 to R301, 46_stack_flags_misc.md
section 1), and what each operation does with its operand. -/

namespace Sys2Proof.Machine

/-! ### The operations -/

/-- `execute(data)` of the `read`-class instructions (R200 to R202, R234 to R243). -/
def ReadOp.run (q : Regs) (d : Byte) : ReadOp → Regs
  | .lda => q.setA d
  | .ldx => q.setX d
  | .ldy => q.setY d
  | .adc => q.adc d
  | .sbc => q.sbc d
  | .and => q.setA (q.a &&& d)
  | .ora => q.setA (q.a ||| d)
  | .eor => q.setA (q.a ^^^ d)
  | .cmp => { q with p := q.p.compare q.a d }
  | .cpx => { q with p := q.p.compare q.x d }
  | .cpy => { q with p := q.p.compare q.y d }
  | .bit => { q with p := q.p.bitTest q.a d }

/-- The register a store writes to memory (R203 to R205). -/
def StoreReg.value (q : Regs) : StoreReg → Byte
  | .a => q.a
  | .x => q.x
  | .y => q.y

/-- `f(data)` and the flags of f for the `rmw`-class instructions (R260, R261, R266 to R269). -/
def RmwOp.run (p : Flags) (d : Byte) : RmwOp → Byte × Flags
  | .inc => incOp p d
  | .dec => decOp p d
  | .asl => aslOp p d
  | .lsr => lsrOp p d
  | .rol => rolOp p d
  | .ror => rorOp p d

/-- Apply a shift to the accumulator (R156). -/
def Regs.shiftA (q : Regs) (op : RmwOp) : Regs :=
  { q with a := (op.run q.p q.a).1, p := (op.run q.p q.a).2 }

/-- The two-cycle operations (R206 to R211, R262 to R269, R324 to R331). -/
def ImpliedOp.run (q : Regs) : ImpliedOp → Regs
  | .tax => q.setX q.a
  | .tay => q.setY q.a
  | .txa => q.setA q.x
  | .tya => q.setA q.y
  | .tsx => q.setX q.s
  | .txs => { q with s := q.x }
  | .inx => q.setX (q.x + 1)
  | .iny => q.setY (q.y + 1)
  | .dex => q.setX (q.x - 1)
  | .dey => q.setY (q.y - 1)
  | .aslA => q.shiftA .asl
  | .lsrA => q.shiftA .lsr
  | .rolA => q.shiftA .rol
  | .rorA => q.shiftA .ror
  | .clc => { q with p := { q.p with c := false } }
  | .cld => { q with p := { q.p with d := false } }
  | .cli => { q with p := { q.p with i := false } }
  | .clv => { q with p := { q.p with v := false } }
  | .sec => { q with p := { q.p with c := true } }
  | .sed => { q with p := { q.p with d := true } }
  | .sei => { q with p := { q.p with i := true } }
  | .nop => q

/-- `cond(P)` of a branch (R291 to R298). -/
def Cond.holds (p : Flags) : Cond → Bool
  | .cc => !p.c
  | .cs => p.c
  | .eq => p.z
  | .ne => !p.z
  | .mi => p.n
  | .pl => !p.n
  | .vc => !p.v
  | .vs => p.v

/-- What a push writes (R320, R321). -/
def StackReg.pushed (q : Regs) : StackReg → Byte
  | .a => q.a
  | .p => q.p.pack true

/-- What a pull does with the byte read (R322, R323). -/
def StackReg.pulled (q : Regs) (d : Byte) : StackReg → Regs
  | .a => q.setA d
  | .p => { q with p := Flags.unpack d }

/-! ### Effective addresses -/

/-- The index register of an indexed mode: X or Y (R159, R162 to R164). -/
def Mode.index (q : Regs) : Mode → Byte
  | .zpY | .absY | .indY => q.y
  | _ => q.x

/-- Is the mode one whose index addition may cross a page (R162, R164)? -/
def Mode.mayCross : Mode → Bool
  | .absX | .absY | .indY => true
  | _ => false

/-- The address with the high byte not yet corrected, `bah:adl` (R173, R175). -/
def Micro.rawAddr (m : Micro) : Word := word m.bah m.adl

/-- `EA = ((bah + crossed) & 0xFF):adl` (R173, R175). -/
def Micro.indexedAddr (m : Micro) : Word := word (if m.crossed then m.bah + 1 else m.bah) m.adl

/-- The effective address in the latches once a mode's address cycles are over (R158 to R164). -/
def Mode.ea (m : Micro) : Mode → Word
  | .zp | .zpX | .zpY => zeroPage m.adl
  | .abs | .indX => word m.adh m.adl
  | .absX | .absY | .indY => m.indexedAddr
  | .imm => m.rawAddr

/-- `adl <- (lo + idx) & 0xFF` and `crossed <- lo + idx > 0xFF` (R162, R164, R173, R175). -/
def Micro.addIndex (m : Micro) (lo idx : Byte) : Micro :=
  { m with adl := lo + idx, crossed := carriesOut lo idx }

/-- The address cycles of a mode: those between the opcode fetch and the first access that reads the
operand, or in the modes of R173 and R175 may read it at the uncorrected address. -/
def Mode.addressRows (m : Mode) : List Row :=
  match m with
  | .imm => []
  | .zp => [operandRow fun b m => { m with adl := b }]
  | .zpX | .zpY =>
    [ operandRow fun b m => { m with bal := b },
      { access := fun c => .read (zeroPage c.micro.bal)
        update := fun _ c => c.latch fun l => { l with adl := l.bal + m.index c.regs } } ]
  | .abs => [operandRow fun b m => { m with adl := b }, operandRow fun b m => { m with adh := b }]
  | .absX | .absY =>
    [ operandRow fun b m => { m with bal := b },
      { access := fun c => .read c.regs.pc
        update := fun b c =>
          (c.latch fun l => { l with bah := b }.addIndex l.bal (m.index c.regs)).incPc
        stream := true } ]
  | .indX =>
    [ operandRow fun b m => { m with ptr := b },
      { access := fun c => .read (zeroPage c.micro.ptr)
        update := fun _ c => c.latch fun l => { l with ptr := l.ptr + c.regs.x } },
      { access := fun c => .read (zeroPage c.micro.ptr)
        update := fun b c => c.latch fun l => { l with adl := b } },
      { access := fun c => .read (zeroPage (c.micro.ptr + 1))
        update := fun b c => c.latch fun l => { l with adh := b } } ]
  | .indY =>
    [ operandRow fun b m => { m with ptr := b },
      { access := fun c => .read (zeroPage c.micro.ptr)
        update := fun b c => c.latch fun l => { l with bal := b } },
      { access := fun c => .read (zeroPage (c.micro.ptr + 1))
        update := fun b c => c.latch fun l => { l with bah := b }.addIndex l.bal c.regs.y } ]

/-! ### The cycle tables -/

/-- `R(bah:adl)`, dummy (R173, R175). -/
def dummyRawRow : Row := { access := fun c => .read c.micro.rawAddr, update := fun _ c => c }

/-- The last cycle of a `read`-class instruction: `R(EA) -> data; execute(data)` (R154). -/
def executeRow (op : ReadOp) (ea : Micro → Word) : Row :=
  { access := fun c => .read (ea c.micro)
    update := fun b c => (c.latch fun m => { m with data := b }).mapRegs fun q => op.run q b }

/-- T-IMM (R169). -/
def immediateRows (op : ReadOp) : List Row :=
  [ fetchRow,
    { access := fun c => .read c.regs.pc
      update := fun b c =>
        ((c.latch fun m => { m with data := b }).incPc).mapRegs fun q => op.run q b
      stream := true } ]

/-- The `-R` tables (R170 to R176): where the index may cross a page, the read of the uncorrected address
is the last one when it does not. -/
def readRows (op : ReadOp) (m : Mode) : List Row :=
  match m with
  | .imm => immediateRows op
  | .absX | .absY | .indY =>
    fetchRow :: m.addressRows ++
      [ { access := fun c => .read c.micro.rawAddr
          update := fun b c =>
            let d := c.latch fun l => { l with data := b }
            if c.micro.crossed then d else d.mapRegs fun q => op.run q b
          last := fun _ c => !c.micro.crossed },
        executeRow op m.ea ]
  | _ => fetchRow :: m.addressRows ++ [executeRow op m.ea]

/-- The `-W` tables (R170 to R176). -/
def writeRows (r : StoreReg) (m : Mode) : List Row :=
  fetchRow :: m.addressRows ++ (if m.mayCross then [dummyRawRow] else []) ++
    [ { access := fun c => .write (m.ea c.micro) (r.value c.regs), update := fun _ c => c } ]

/-- The `-M` tables (R168, R170 to R173): read, write back unmodified, write `f(data)`, then the flags. -/
def rmwRows (op : RmwOp) (m : Mode) : List Row :=
  fetchRow :: m.addressRows ++ (if m.mayCross then [dummyRawRow] else []) ++
    [ { access := fun c => .read (m.ea c.micro)
        update := fun b c => c.latch fun l => { l with data := b } },
      { access := fun c => .write (m.ea c.micro) c.micro.data, update := fun _ c => c },
      { access := fun c => .write (m.ea c.micro) (op.run c.regs.p c.micro.data).1
        update := fun _ c => c.mapRegs fun q => { q with p := (op.run q.p c.micro.data).2 } } ]

/-- T-IMP (R167). -/
def impliedRows (op : ImpliedOp) : List Row :=
  [ fetchRow,
    { access := fun c => .read c.regs.pc, update := fun _ c => c.mapRegs fun q => op.run q } ]

/-- The branch target `(PCn + sext_16(off)) mod 0x10000` (R165, R290). -/
def branchTarget (pcn : Word) (off : Byte) : Word := pcn + sext16 off

/-- Does the branch stay in the page of the next instruction (R290)? -/
def samePage (pcn : Word) (off : Byte) : Bool :=
  decide (highByte (branchTarget pcn off) = highByte pcn)

/-- T-REL (R290). -/
def branchRows (k : Cond) : List Row :=
  [ fetchRow,
    { access := fun c => .read c.regs.pc
      update := fun b c => (c.latch fun m => { m with data := b }).incPc
      last := fun _ c => !k.holds c.regs.p
      stream := true },
    { access := fun c => .read c.regs.pc
      update := fun _ c =>
        if samePage c.regs.pc c.micro.data then c.setPc (branchTarget c.regs.pc c.micro.data) else c
      last := fun _ c => samePage c.regs.pc c.micro.data },
    { access := fun c =>
        .read (word (highByte c.regs.pc) (lowByte (branchTarget c.regs.pc c.micro.data)))
      update := fun _ c => c.setPc (branchTarget c.regs.pc c.micro.data) } ]

/-- T-JMPABS (R299). -/
def jmpAbsRows : List Row :=
  [ fetchRow,
    operandRow fun b m => { m with adl := b },
    { access := fun c => .read c.regs.pc
      update := fun b c => (c.latch fun m => { m with adh := b }).setPc (word b c.micro.adl)
      stream := true } ]

/-- T-JMPIND (R299): the high byte of the target comes from the same page as the low byte. -/
def jmpIndRows : List Row :=
  [ fetchRow,
    operandRow fun b m => { m with bal := b },
    operandRow fun b m => { m with bah := b },
    { access := fun c => .read (word c.micro.bah c.micro.bal)
      update := fun b c => c.latch fun m => { m with adl := b } },
    { access := fun c => .read (word c.micro.bah (c.micro.bal + 1))
      update := fun b c => (c.latch fun m => { m with adh := b }).setPc (word b c.micro.adl) } ]

/-- T-JSR (R300): the target's high byte is fetched after the pushes. -/
def jsrRows : List Row :=
  [ fetchRow,
    operandRow fun b m => { m with adl := b },
    dummyStackRow id,
    pushRow fun c => highByte c.regs.pc,
    pushRow fun c => lowByte c.regs.pc,
    { access := fun c => .read c.regs.pc
      update := fun b c => (c.latch fun m => { m with adh := b }).setPc (word b c.micro.adl)
      stream := true } ]

/-- T-RTS (R301). -/
def rtsRows : List Row :=
  [ fetchRow, dummyPcRow, dummyStackRow Cpu.incS,
    pullRow fun b c => (c.latch fun m => { m with adl := b }).incS,
    pullRow fun b c => (c.latch fun m => { m with adh := b }).setPc (word b c.micro.adl),
    { access := fun c => .read c.regs.pc, update := fun _ c => c.incPc } ]

/-- T-PUSH (46_stack_flags_misc.md section 1, R320, R321). -/
def pushRows (r : StackReg) : List Row :=
  [fetchRow, dummyPcRow, pushRow fun c => r.pushed c.regs]

/-- T-PULL (46_stack_flags_misc.md section 1, R322, R323). -/
def pullRows (r : StackReg) : List Row :=
  [ fetchRow, dummyPcRow, dummyStackRow Cpu.incS,
    pullRow fun b c => (c.latch fun m => { m with data := b }).mapRegs fun q => r.pulled q b ]

/-- The cycle table of a form (R127's "cycle table" column). -/
def Form.rows : Form → List Row
  | .read op m => readRows op m
  | .write r m => writeRows r m
  | .rmw op m => rmwRows op m
  | .implied op => impliedRows op
  | .branch k => branchRows k
  | .jmpAbs => jmpAbsRows
  | .jmpInd => jmpIndRows
  | .jsr => jsrRows
  | .rts => rtsRows
  | .rti => rtiRows
  | .brk => brkRows
  | .push r => pushRows r
  | .pull r => pullRows r

/-- Run an instruction of a form from an instruction boundary to the next, every cycle of its table in
order (R151, R179); `bytes` are the instruction's own bytes. -/
def State.runForm (s : State) (f : Form) (bytes : List Byte) : State :=
  State.runRows f.rows bytes (s.startSeq .instr)

end Sys2Proof.Machine
end

