-- ==== Sys2Proof/Machine/Arithmetic.lean ====
section
/-! DEFINITION. Arithmetic, logic, compare and bit test (R234 to R243): one meaning per instruction.  Each
runs the instruction's cycle table (Operands.lean) on the bytes of the instruction, one machine cycle a row. -/

namespace Sys2Proof.Machine

/-- ADC (Indirect,X) (0x61): R234, table T-IZX-R. -/
def execAdcIndX (op8 : Byte) (s : State) : Host.Outcome State Fault Refusal :=
  .next (s.runForm (.read .adc .indX) [0x61#8, op8])

/-- ADC Zero page (0x65): R234, table T-ZP-R. -/
def execAdcZp (op8 : Byte) (s : State) : Host.Outcome State Fault Refusal :=
  .next (s.runForm (.read .adc .zp) [0x65#8, op8])

/-- ADC Immediate (0x69): R234, table T-IMM. -/
def execAdcImm (data : Byte) (s : State) : Host.Outcome State Fault Refusal :=
  .next (s.runForm (.read .adc .imm) [0x69#8, data])

/-- ADC Absolute (0x6D): R234, table T-ABS-R. -/
def execAdcAbs (addr : Word) (s : State) : Host.Outcome State Fault Refusal :=
  .next (s.runForm (.read .adc .abs) [0x6D#8, lowByte addr, highByte addr])

/-- ADC (Indirect),Y (0x71): R234, table T-IZY-R. -/
def execAdcIndY (op8 : Byte) (s : State) : Host.Outcome State Fault Refusal :=
  .next (s.runForm (.read .adc .indY) [0x71#8, op8])

/-- ADC Zero page,X (0x75): R234, table T-ZPI-R. -/
def execAdcZpX (op8 : Byte) (s : State) : Host.Outcome State Fault Refusal :=
  .next (s.runForm (.read .adc .zpX) [0x75#8, op8])

/-- ADC Absolute,Y (0x79): R234, table T-ABSI-R. -/
def execAdcAbsY (addr : Word) (s : State) : Host.Outcome State Fault Refusal :=
  .next (s.runForm (.read .adc .absY) [0x79#8, lowByte addr, highByte addr])

/-- ADC Absolute,X (0x7D): R234, table T-ABSI-R. -/
def execAdcAbsX (addr : Word) (s : State) : Host.Outcome State Fault Refusal :=
  .next (s.runForm (.read .adc .absX) [0x7D#8, lowByte addr, highByte addr])

/-- SBC (Indirect,X) (0xE1): R235, table T-IZX-R. -/
def execSbcIndX (op8 : Byte) (s : State) : Host.Outcome State Fault Refusal :=
  .next (s.runForm (.read .sbc .indX) [0xE1#8, op8])

/-- SBC Zero page (0xE5): R235, table T-ZP-R. -/
def execSbcZp (op8 : Byte) (s : State) : Host.Outcome State Fault Refusal :=
  .next (s.runForm (.read .sbc .zp) [0xE5#8, op8])

/-- SBC Immediate (0xE9): R235, table T-IMM. -/
def execSbcImm (data : Byte) (s : State) : Host.Outcome State Fault Refusal :=
  .next (s.runForm (.read .sbc .imm) [0xE9#8, data])

/-- SBC Absolute (0xED): R235, table T-ABS-R. -/
def execSbcAbs (addr : Word) (s : State) : Host.Outcome State Fault Refusal :=
  .next (s.runForm (.read .sbc .abs) [0xED#8, lowByte addr, highByte addr])

/-- SBC (Indirect),Y (0xF1): R235, table T-IZY-R. -/
def execSbcIndY (op8 : Byte) (s : State) : Host.Outcome State Fault Refusal :=
  .next (s.runForm (.read .sbc .indY) [0xF1#8, op8])

/-- SBC Zero page,X (0xF5): R235, table T-ZPI-R. -/
def execSbcZpX (op8 : Byte) (s : State) : Host.Outcome State Fault Refusal :=
  .next (s.runForm (.read .sbc .zpX) [0xF5#8, op8])

/-- SBC Absolute,Y (0xF9): R235, table T-ABSI-R. -/
def execSbcAbsY (addr : Word) (s : State) : Host.Outcome State Fault Refusal :=
  .next (s.runForm (.read .sbc .absY) [0xF9#8, lowByte addr, highByte addr])

/-- SBC Absolute,X (0xFD): R235, table T-ABSI-R. -/
def execSbcAbsX (addr : Word) (s : State) : Host.Outcome State Fault Refusal :=
  .next (s.runForm (.read .sbc .absX) [0xFD#8, lowByte addr, highByte addr])

/-- AND (Indirect,X) (0x21): R236, table T-IZX-R. -/
def execAndIndX (op8 : Byte) (s : State) : Host.Outcome State Fault Refusal :=
  .next (s.runForm (.read .and .indX) [0x21#8, op8])

/-- AND Zero page (0x25): R236, table T-ZP-R. -/
def execAndZp (op8 : Byte) (s : State) : Host.Outcome State Fault Refusal :=
  .next (s.runForm (.read .and .zp) [0x25#8, op8])

/-- AND Immediate (0x29): R236, table T-IMM. -/
def execAndImm (data : Byte) (s : State) : Host.Outcome State Fault Refusal :=
  .next (s.runForm (.read .and .imm) [0x29#8, data])

/-- AND Absolute (0x2D): R236, table T-ABS-R. -/
def execAndAbs (addr : Word) (s : State) : Host.Outcome State Fault Refusal :=
  .next (s.runForm (.read .and .abs) [0x2D#8, lowByte addr, highByte addr])

/-- AND (Indirect),Y (0x31): R236, table T-IZY-R. -/
def execAndIndY (op8 : Byte) (s : State) : Host.Outcome State Fault Refusal :=
  .next (s.runForm (.read .and .indY) [0x31#8, op8])

/-- AND Zero page,X (0x35): R236, table T-ZPI-R. -/
def execAndZpX (op8 : Byte) (s : State) : Host.Outcome State Fault Refusal :=
  .next (s.runForm (.read .and .zpX) [0x35#8, op8])

/-- AND Absolute,Y (0x39): R236, table T-ABSI-R. -/
def execAndAbsY (addr : Word) (s : State) : Host.Outcome State Fault Refusal :=
  .next (s.runForm (.read .and .absY) [0x39#8, lowByte addr, highByte addr])

/-- AND Absolute,X (0x3D): R236, table T-ABSI-R. -/
def execAndAbsX (addr : Word) (s : State) : Host.Outcome State Fault Refusal :=
  .next (s.runForm (.read .and .absX) [0x3D#8, lowByte addr, highByte addr])

/-- ORA (Indirect,X) (0x01): R237, table T-IZX-R. -/
def execOraIndX (op8 : Byte) (s : State) : Host.Outcome State Fault Refusal :=
  .next (s.runForm (.read .ora .indX) [0x01#8, op8])

/-- ORA Zero page (0x05): R237, table T-ZP-R. -/
def execOraZp (op8 : Byte) (s : State) : Host.Outcome State Fault Refusal :=
  .next (s.runForm (.read .ora .zp) [0x05#8, op8])

/-- ORA Immediate (0x09): R237, table T-IMM. -/
def execOraImm (data : Byte) (s : State) : Host.Outcome State Fault Refusal :=
  .next (s.runForm (.read .ora .imm) [0x09#8, data])

/-- ORA Absolute (0x0D): R237, table T-ABS-R. -/
def execOraAbs (addr : Word) (s : State) : Host.Outcome State Fault Refusal :=
  .next (s.runForm (.read .ora .abs) [0x0D#8, lowByte addr, highByte addr])

/-- ORA (Indirect),Y (0x11): R237, table T-IZY-R. -/
def execOraIndY (op8 : Byte) (s : State) : Host.Outcome State Fault Refusal :=
  .next (s.runForm (.read .ora .indY) [0x11#8, op8])

/-- ORA Zero page,X (0x15): R237, table T-ZPI-R. -/
def execOraZpX (op8 : Byte) (s : State) : Host.Outcome State Fault Refusal :=
  .next (s.runForm (.read .ora .zpX) [0x15#8, op8])

/-- ORA Absolute,Y (0x19): R237, table T-ABSI-R. -/
def execOraAbsY (addr : Word) (s : State) : Host.Outcome State Fault Refusal :=
  .next (s.runForm (.read .ora .absY) [0x19#8, lowByte addr, highByte addr])

/-- ORA Absolute,X (0x1D): R237, table T-ABSI-R. -/
def execOraAbsX (addr : Word) (s : State) : Host.Outcome State Fault Refusal :=
  .next (s.runForm (.read .ora .absX) [0x1D#8, lowByte addr, highByte addr])

/-- EOR (Indirect,X) (0x41): R238, table T-IZX-R. -/
def execEorIndX (op8 : Byte) (s : State) : Host.Outcome State Fault Refusal :=
  .next (s.runForm (.read .eor .indX) [0x41#8, op8])

/-- EOR Zero page (0x45): R238, table T-ZP-R. -/
def execEorZp (op8 : Byte) (s : State) : Host.Outcome State Fault Refusal :=
  .next (s.runForm (.read .eor .zp) [0x45#8, op8])

/-- EOR Immediate (0x49): R238, table T-IMM. -/
def execEorImm (data : Byte) (s : State) : Host.Outcome State Fault Refusal :=
  .next (s.runForm (.read .eor .imm) [0x49#8, data])

/-- EOR Absolute (0x4D): R238, table T-ABS-R. -/
def execEorAbs (addr : Word) (s : State) : Host.Outcome State Fault Refusal :=
  .next (s.runForm (.read .eor .abs) [0x4D#8, lowByte addr, highByte addr])

/-- EOR (Indirect),Y (0x51): R238, table T-IZY-R. -/
def execEorIndY (op8 : Byte) (s : State) : Host.Outcome State Fault Refusal :=
  .next (s.runForm (.read .eor .indY) [0x51#8, op8])

/-- EOR Zero page,X (0x55): R238, table T-ZPI-R. -/
def execEorZpX (op8 : Byte) (s : State) : Host.Outcome State Fault Refusal :=
  .next (s.runForm (.read .eor .zpX) [0x55#8, op8])

/-- EOR Absolute,Y (0x59): R238, table T-ABSI-R. -/
def execEorAbsY (addr : Word) (s : State) : Host.Outcome State Fault Refusal :=
  .next (s.runForm (.read .eor .absY) [0x59#8, lowByte addr, highByte addr])

/-- EOR Absolute,X (0x5D): R238, table T-ABSI-R. -/
def execEorAbsX (addr : Word) (s : State) : Host.Outcome State Fault Refusal :=
  .next (s.runForm (.read .eor .absX) [0x5D#8, lowByte addr, highByte addr])

/-- CMP (Indirect,X) (0xC1): R240, table T-IZX-R. -/
def execCmpIndX (op8 : Byte) (s : State) : Host.Outcome State Fault Refusal :=
  .next (s.runForm (.read .cmp .indX) [0xC1#8, op8])

/-- CMP Zero page (0xC5): R240, table T-ZP-R. -/
def execCmpZp (op8 : Byte) (s : State) : Host.Outcome State Fault Refusal :=
  .next (s.runForm (.read .cmp .zp) [0xC5#8, op8])

/-- CMP Immediate (0xC9): R240, table T-IMM. -/
def execCmpImm (data : Byte) (s : State) : Host.Outcome State Fault Refusal :=
  .next (s.runForm (.read .cmp .imm) [0xC9#8, data])

/-- CMP Absolute (0xCD): R240, table T-ABS-R. -/
def execCmpAbs (addr : Word) (s : State) : Host.Outcome State Fault Refusal :=
  .next (s.runForm (.read .cmp .abs) [0xCD#8, lowByte addr, highByte addr])

/-- CMP (Indirect),Y (0xD1): R240, table T-IZY-R. -/
def execCmpIndY (op8 : Byte) (s : State) : Host.Outcome State Fault Refusal :=
  .next (s.runForm (.read .cmp .indY) [0xD1#8, op8])

/-- CMP Zero page,X (0xD5): R240, table T-ZPI-R. -/
def execCmpZpX (op8 : Byte) (s : State) : Host.Outcome State Fault Refusal :=
  .next (s.runForm (.read .cmp .zpX) [0xD5#8, op8])

/-- CMP Absolute,Y (0xD9): R240, table T-ABSI-R. -/
def execCmpAbsY (addr : Word) (s : State) : Host.Outcome State Fault Refusal :=
  .next (s.runForm (.read .cmp .absY) [0xD9#8, lowByte addr, highByte addr])

/-- CMP Absolute,X (0xDD): R240, table T-ABSI-R. -/
def execCmpAbsX (addr : Word) (s : State) : Host.Outcome State Fault Refusal :=
  .next (s.runForm (.read .cmp .absX) [0xDD#8, lowByte addr, highByte addr])

/-- CPX Immediate (0xE0): R241, table T-IMM. -/
def execCpxImm (data : Byte) (s : State) : Host.Outcome State Fault Refusal :=
  .next (s.runForm (.read .cpx .imm) [0xE0#8, data])

/-- CPX Zero page (0xE4): R241, table T-ZP-R. -/
def execCpxZp (op8 : Byte) (s : State) : Host.Outcome State Fault Refusal :=
  .next (s.runForm (.read .cpx .zp) [0xE4#8, op8])

/-- CPX Absolute (0xEC): R241, table T-ABS-R. -/
def execCpxAbs (addr : Word) (s : State) : Host.Outcome State Fault Refusal :=
  .next (s.runForm (.read .cpx .abs) [0xEC#8, lowByte addr, highByte addr])

/-- CPY Immediate (0xC0): R242, table T-IMM. -/
def execCpyImm (data : Byte) (s : State) : Host.Outcome State Fault Refusal :=
  .next (s.runForm (.read .cpy .imm) [0xC0#8, data])

/-- CPY Zero page (0xC4): R242, table T-ZP-R. -/
def execCpyZp (op8 : Byte) (s : State) : Host.Outcome State Fault Refusal :=
  .next (s.runForm (.read .cpy .zp) [0xC4#8, op8])

/-- CPY Absolute (0xCC): R242, table T-ABS-R. -/
def execCpyAbs (addr : Word) (s : State) : Host.Outcome State Fault Refusal :=
  .next (s.runForm (.read .cpy .abs) [0xCC#8, lowByte addr, highByte addr])

/-- BIT Zero page (0x24): R243, table T-ZP-R. -/
def execBitZp (op8 : Byte) (s : State) : Host.Outcome State Fault Refusal :=
  .next (s.runForm (.read .bit .zp) [0x24#8, op8])

/-- BIT Absolute (0x2C): R243, table T-ABS-R. -/
def execBitAbs (addr : Word) (s : State) : Host.Outcome State Fault Refusal :=
  .next (s.runForm (.read .bit .abs) [0x2C#8, lowByte addr, highByte addr])

end Sys2Proof.Machine
end

