-- ==== Sys2Proof/Machine/Control.lean ====
section
/-! DEFINITION. Branches, jumps, subroutine calls, returns and BRK (R290 to R303): one meaning per instruction.  Each
runs the instruction's cycle table (Operands.lean) on the bytes of the instruction, one machine cycle a row. -/

namespace Sys2Proof.Machine

/-- BCC Relative (0x90): R291, table T-REL. -/
def execBcc (off : Byte) (s : State) : Host.Outcome State Fault Refusal :=
  .next (s.runForm (.branch .cc) [0x90#8, off])

/-- BCS Relative (0xB0): R292, table T-REL. -/
def execBcs (off : Byte) (s : State) : Host.Outcome State Fault Refusal :=
  .next (s.runForm (.branch .cs) [0xB0#8, off])

/-- BEQ Relative (0xF0): R293, table T-REL. -/
def execBeq (off : Byte) (s : State) : Host.Outcome State Fault Refusal :=
  .next (s.runForm (.branch .eq) [0xF0#8, off])

/-- BNE Relative (0xD0): R294, table T-REL. -/
def execBne (off : Byte) (s : State) : Host.Outcome State Fault Refusal :=
  .next (s.runForm (.branch .ne) [0xD0#8, off])

/-- BMI Relative (0x30): R295, table T-REL. -/
def execBmi (off : Byte) (s : State) : Host.Outcome State Fault Refusal :=
  .next (s.runForm (.branch .mi) [0x30#8, off])

/-- BPL Relative (0x10): R296, table T-REL. -/
def execBpl (off : Byte) (s : State) : Host.Outcome State Fault Refusal :=
  .next (s.runForm (.branch .pl) [0x10#8, off])

/-- BVC Relative (0x50): R297, table T-REL. -/
def execBvc (off : Byte) (s : State) : Host.Outcome State Fault Refusal :=
  .next (s.runForm (.branch .vc) [0x50#8, off])

/-- BVS Relative (0x70): R298, table T-REL. -/
def execBvs (off : Byte) (s : State) : Host.Outcome State Fault Refusal :=
  .next (s.runForm (.branch .vs) [0x70#8, off])

/-- JMP Absolute (0x4C): R299, table T-JMPABS. -/
def execJmpAbs (addr : Word) (s : State) : Host.Outcome State Fault Refusal :=
  .next (s.runForm .jmpAbs [0x4C#8, lowByte addr, highByte addr])

/-- JMP Absolute indirect (0x6C): R299, table T-JMPIND. -/
def execJmpInd (addr : Word) (s : State) : Host.Outcome State Fault Refusal :=
  .next (s.runForm .jmpInd [0x6C#8, lowByte addr, highByte addr])

/-- JSR Absolute (0x20): R300, table T-JSR. -/
def execJsr (addr : Word) (s : State) : Host.Outcome State Fault Refusal :=
  .next (s.runForm .jsr [0x20#8, lowByte addr, highByte addr])

/-- RTS (0x60): R301, table T-RTS. -/
def execRts (s : State) : Host.Outcome State Fault Refusal :=
  .next (s.runForm .rts [0x60#8])

/-- RTI (0x40): R302, table T-RTI. -/
def execRti (s : State) : Host.Outcome State Fault Refusal :=
  .next (s.runForm .rti [0x40#8])

/-- BRK (0x00): R303, table T-BRK. -/
def execBrk (s : State) : Host.Outcome State Fault Refusal :=
  .next (s.runForm .brk [0x00#8])

end Sys2Proof.Machine
end

