-- ==== Sys2Proof/Machine/IncDecShift.lean ====
section
/-! DEFINITION. Increment, decrement, shift and rotate (R260 to R269): one meaning per instruction.  Each
runs the instruction's cycle table (Operands.lean) on the bytes of the instruction, one machine cycle a row. -/

namespace Sys2Proof.Machine

/-- INC Zero page (0xE6): R260, table T-ZP-M. -/
def execIncZp (op8 : Byte) (s : State) : Host.Outcome State Fault Refusal :=
  .next (s.runForm (.rmw .inc .zp) [0xE6#8, op8])

/-- INC Absolute (0xEE): R260, table T-ABS-M. -/
def execIncAbs (addr : Word) (s : State) : Host.Outcome State Fault Refusal :=
  .next (s.runForm (.rmw .inc .abs) [0xEE#8, lowByte addr, highByte addr])

/-- INC Zero page,X (0xF6): R260, table T-ZPI-M. -/
def execIncZpX (op8 : Byte) (s : State) : Host.Outcome State Fault Refusal :=
  .next (s.runForm (.rmw .inc .zpX) [0xF6#8, op8])

/-- INC Absolute,X (0xFE): R260, table T-ABSI-M. -/
def execIncAbsX (addr : Word) (s : State) : Host.Outcome State Fault Refusal :=
  .next (s.runForm (.rmw .inc .absX) [0xFE#8, lowByte addr, highByte addr])

/-- DEC Zero page (0xC6): R261, table T-ZP-M. -/
def execDecZp (op8 : Byte) (s : State) : Host.Outcome State Fault Refusal :=
  .next (s.runForm (.rmw .dec .zp) [0xC6#8, op8])

/-- DEC Absolute (0xCE): R261, table T-ABS-M. -/
def execDecAbs (addr : Word) (s : State) : Host.Outcome State Fault Refusal :=
  .next (s.runForm (.rmw .dec .abs) [0xCE#8, lowByte addr, highByte addr])

/-- DEC Zero page,X (0xD6): R261, table T-ZPI-M. -/
def execDecZpX (op8 : Byte) (s : State) : Host.Outcome State Fault Refusal :=
  .next (s.runForm (.rmw .dec .zpX) [0xD6#8, op8])

/-- DEC Absolute,X (0xDE): R261, table T-ABSI-M. -/
def execDecAbsX (addr : Word) (s : State) : Host.Outcome State Fault Refusal :=
  .next (s.runForm (.rmw .dec .absX) [0xDE#8, lowByte addr, highByte addr])

/-- INX (0xE8): R262, table T-IMP. -/
def execInx (s : State) : Host.Outcome State Fault Refusal :=
  .next (s.runForm (.implied .inx) [0xE8#8])

/-- INY (0xC8): R263, table T-IMP. -/
def execIny (s : State) : Host.Outcome State Fault Refusal :=
  .next (s.runForm (.implied .iny) [0xC8#8])

/-- DEX (0xCA): R264, table T-IMP. -/
def execDex (s : State) : Host.Outcome State Fault Refusal :=
  .next (s.runForm (.implied .dex) [0xCA#8])

/-- DEY (0x88): R265, table T-IMP. -/
def execDey (s : State) : Host.Outcome State Fault Refusal :=
  .next (s.runForm (.implied .dey) [0x88#8])

/-- ASL Zero page (0x06): R266, table T-ZP-M. -/
def execAslZp (op8 : Byte) (s : State) : Host.Outcome State Fault Refusal :=
  .next (s.runForm (.rmw .asl .zp) [0x06#8, op8])

/-- ASL Accumulator (0x0A): R266, table T-IMP. -/
def execAslA (s : State) : Host.Outcome State Fault Refusal :=
  .next (s.runForm (.implied .aslA) [0x0A#8])

/-- ASL Absolute (0x0E): R266, table T-ABS-M. -/
def execAslAbs (addr : Word) (s : State) : Host.Outcome State Fault Refusal :=
  .next (s.runForm (.rmw .asl .abs) [0x0E#8, lowByte addr, highByte addr])

/-- ASL Zero page,X (0x16): R266, table T-ZPI-M. -/
def execAslZpX (op8 : Byte) (s : State) : Host.Outcome State Fault Refusal :=
  .next (s.runForm (.rmw .asl .zpX) [0x16#8, op8])

/-- ASL Absolute,X (0x1E): R266, table T-ABSI-M. -/
def execAslAbsX (addr : Word) (s : State) : Host.Outcome State Fault Refusal :=
  .next (s.runForm (.rmw .asl .absX) [0x1E#8, lowByte addr, highByte addr])

/-- LSR Zero page (0x46): R267, table T-ZP-M. -/
def execLsrZp (op8 : Byte) (s : State) : Host.Outcome State Fault Refusal :=
  .next (s.runForm (.rmw .lsr .zp) [0x46#8, op8])

/-- LSR Accumulator (0x4A): R267, table T-IMP. -/
def execLsrA (s : State) : Host.Outcome State Fault Refusal :=
  .next (s.runForm (.implied .lsrA) [0x4A#8])

/-- LSR Absolute (0x4E): R267, table T-ABS-M. -/
def execLsrAbs (addr : Word) (s : State) : Host.Outcome State Fault Refusal :=
  .next (s.runForm (.rmw .lsr .abs) [0x4E#8, lowByte addr, highByte addr])

/-- LSR Zero page,X (0x56): R267, table T-ZPI-M. -/
def execLsrZpX (op8 : Byte) (s : State) : Host.Outcome State Fault Refusal :=
  .next (s.runForm (.rmw .lsr .zpX) [0x56#8, op8])

/-- LSR Absolute,X (0x5E): R267, table T-ABSI-M. -/
def execLsrAbsX (addr : Word) (s : State) : Host.Outcome State Fault Refusal :=
  .next (s.runForm (.rmw .lsr .absX) [0x5E#8, lowByte addr, highByte addr])

/-- ROL Zero page (0x26): R268, table T-ZP-M. -/
def execRolZp (op8 : Byte) (s : State) : Host.Outcome State Fault Refusal :=
  .next (s.runForm (.rmw .rol .zp) [0x26#8, op8])

/-- ROL Accumulator (0x2A): R268, table T-IMP. -/
def execRolA (s : State) : Host.Outcome State Fault Refusal :=
  .next (s.runForm (.implied .rolA) [0x2A#8])

/-- ROL Absolute (0x2E): R268, table T-ABS-M. -/
def execRolAbs (addr : Word) (s : State) : Host.Outcome State Fault Refusal :=
  .next (s.runForm (.rmw .rol .abs) [0x2E#8, lowByte addr, highByte addr])

/-- ROL Zero page,X (0x36): R268, table T-ZPI-M. -/
def execRolZpX (op8 : Byte) (s : State) : Host.Outcome State Fault Refusal :=
  .next (s.runForm (.rmw .rol .zpX) [0x36#8, op8])

/-- ROL Absolute,X (0x3E): R268, table T-ABSI-M. -/
def execRolAbsX (addr : Word) (s : State) : Host.Outcome State Fault Refusal :=
  .next (s.runForm (.rmw .rol .absX) [0x3E#8, lowByte addr, highByte addr])

/-- ROR Zero page (0x66): R269, table T-ZP-M. -/
def execRorZp (op8 : Byte) (s : State) : Host.Outcome State Fault Refusal :=
  .next (s.runForm (.rmw .ror .zp) [0x66#8, op8])

/-- ROR Accumulator (0x6A): R269, table T-IMP. -/
def execRorA (s : State) : Host.Outcome State Fault Refusal :=
  .next (s.runForm (.implied .rorA) [0x6A#8])

/-- ROR Absolute (0x6E): R269, table T-ABS-M. -/
def execRorAbs (addr : Word) (s : State) : Host.Outcome State Fault Refusal :=
  .next (s.runForm (.rmw .ror .abs) [0x6E#8, lowByte addr, highByte addr])

/-- ROR Zero page,X (0x76): R269, table T-ZPI-M. -/
def execRorZpX (op8 : Byte) (s : State) : Host.Outcome State Fault Refusal :=
  .next (s.runForm (.rmw .ror .zpX) [0x76#8, op8])

/-- ROR Absolute,X (0x7E): R269, table T-ABSI-M. -/
def execRorAbsX (addr : Word) (s : State) : Host.Outcome State Fault Refusal :=
  .next (s.runForm (.rmw .ror .absX) [0x7E#8, lowByte addr, highByte addr])

end Sys2Proof.Machine
end

