-- ==== Sys2Proof/Machine/LoadStore.lean ====
section
/-! DEFINITION. Loads, stores and register transfers (R200 to R211): one meaning per instruction.  Each
runs the instruction's cycle table (Operands.lean) on the bytes of the instruction, one machine cycle a row. -/

namespace Sys2Proof.Machine

/-- LDA (Indirect,X) (0xA1): R200, table T-IZX-R. -/
def execLdaIndX (op8 : Byte) (s : State) : Host.Outcome State Fault Refusal :=
  .next (s.runForm (.read .lda .indX) [0xA1#8, op8])

/-- LDA Zero page (0xA5): R200, table T-ZP-R. -/
def execLdaZp (op8 : Byte) (s : State) : Host.Outcome State Fault Refusal :=
  .next (s.runForm (.read .lda .zp) [0xA5#8, op8])

/-- LDA Immediate (0xA9): R200, table T-IMM. -/
def execLdaImm (data : Byte) (s : State) : Host.Outcome State Fault Refusal :=
  .next (s.runForm (.read .lda .imm) [0xA9#8, data])

/-- LDA Absolute (0xAD): R200, table T-ABS-R. -/
def execLdaAbs (addr : Word) (s : State) : Host.Outcome State Fault Refusal :=
  .next (s.runForm (.read .lda .abs) [0xAD#8, lowByte addr, highByte addr])

/-- LDA (Indirect),Y (0xB1): R200, table T-IZY-R. -/
def execLdaIndY (op8 : Byte) (s : State) : Host.Outcome State Fault Refusal :=
  .next (s.runForm (.read .lda .indY) [0xB1#8, op8])

/-- LDA Zero page,X (0xB5): R200, table T-ZPI-R. -/
def execLdaZpX (op8 : Byte) (s : State) : Host.Outcome State Fault Refusal :=
  .next (s.runForm (.read .lda .zpX) [0xB5#8, op8])

/-- LDA Absolute,Y (0xB9): R200, table T-ABSI-R. -/
def execLdaAbsY (addr : Word) (s : State) : Host.Outcome State Fault Refusal :=
  .next (s.runForm (.read .lda .absY) [0xB9#8, lowByte addr, highByte addr])

/-- LDA Absolute,X (0xBD): R200, table T-ABSI-R. -/
def execLdaAbsX (addr : Word) (s : State) : Host.Outcome State Fault Refusal :=
  .next (s.runForm (.read .lda .absX) [0xBD#8, lowByte addr, highByte addr])

/-- LDX Immediate (0xA2): R201, table T-IMM. -/
def execLdxImm (data : Byte) (s : State) : Host.Outcome State Fault Refusal :=
  .next (s.runForm (.read .ldx .imm) [0xA2#8, data])

/-- LDX Zero page (0xA6): R201, table T-ZP-R. -/
def execLdxZp (op8 : Byte) (s : State) : Host.Outcome State Fault Refusal :=
  .next (s.runForm (.read .ldx .zp) [0xA6#8, op8])

/-- LDX Absolute (0xAE): R201, table T-ABS-R. -/
def execLdxAbs (addr : Word) (s : State) : Host.Outcome State Fault Refusal :=
  .next (s.runForm (.read .ldx .abs) [0xAE#8, lowByte addr, highByte addr])

/-- LDX Zero page,Y (0xB6): R201, table T-ZPI-R. -/
def execLdxZpY (op8 : Byte) (s : State) : Host.Outcome State Fault Refusal :=
  .next (s.runForm (.read .ldx .zpY) [0xB6#8, op8])

/-- LDX Absolute,Y (0xBE): R201, table T-ABSI-R. -/
def execLdxAbsY (addr : Word) (s : State) : Host.Outcome State Fault Refusal :=
  .next (s.runForm (.read .ldx .absY) [0xBE#8, lowByte addr, highByte addr])

/-- LDY Immediate (0xA0): R202, table T-IMM. -/
def execLdyImm (data : Byte) (s : State) : Host.Outcome State Fault Refusal :=
  .next (s.runForm (.read .ldy .imm) [0xA0#8, data])

/-- LDY Zero page (0xA4): R202, table T-ZP-R. -/
def execLdyZp (op8 : Byte) (s : State) : Host.Outcome State Fault Refusal :=
  .next (s.runForm (.read .ldy .zp) [0xA4#8, op8])

/-- LDY Absolute (0xAC): R202, table T-ABS-R. -/
def execLdyAbs (addr : Word) (s : State) : Host.Outcome State Fault Refusal :=
  .next (s.runForm (.read .ldy .abs) [0xAC#8, lowByte addr, highByte addr])

/-- LDY Zero page,X (0xB4): R202, table T-ZPI-R. -/
def execLdyZpX (op8 : Byte) (s : State) : Host.Outcome State Fault Refusal :=
  .next (s.runForm (.read .ldy .zpX) [0xB4#8, op8])

/-- LDY Absolute,X (0xBC): R202, table T-ABSI-R. -/
def execLdyAbsX (addr : Word) (s : State) : Host.Outcome State Fault Refusal :=
  .next (s.runForm (.read .ldy .absX) [0xBC#8, lowByte addr, highByte addr])

/-- STA (Indirect,X) (0x81): R203, table T-IZX-W. -/
def execStaIndX (op8 : Byte) (s : State) : Host.Outcome State Fault Refusal :=
  .next (s.runForm (.write .a .indX) [0x81#8, op8])

/-- STA Zero page (0x85): R203, table T-ZP-W. -/
def execStaZp (op8 : Byte) (s : State) : Host.Outcome State Fault Refusal :=
  .next (s.runForm (.write .a .zp) [0x85#8, op8])

/-- STA Absolute (0x8D): R203, table T-ABS-W. -/
def execStaAbs (addr : Word) (s : State) : Host.Outcome State Fault Refusal :=
  .next (s.runForm (.write .a .abs) [0x8D#8, lowByte addr, highByte addr])

/-- STA (Indirect),Y (0x91): R203, table T-IZY-W. -/
def execStaIndY (op8 : Byte) (s : State) : Host.Outcome State Fault Refusal :=
  .next (s.runForm (.write .a .indY) [0x91#8, op8])

/-- STA Zero page,X (0x95): R203, table T-ZPI-W. -/
def execStaZpX (op8 : Byte) (s : State) : Host.Outcome State Fault Refusal :=
  .next (s.runForm (.write .a .zpX) [0x95#8, op8])

/-- STA Absolute,Y (0x99): R203, table T-ABSI-W. -/
def execStaAbsY (addr : Word) (s : State) : Host.Outcome State Fault Refusal :=
  .next (s.runForm (.write .a .absY) [0x99#8, lowByte addr, highByte addr])

/-- STA Absolute,X (0x9D): R203, table T-ABSI-W. -/
def execStaAbsX (addr : Word) (s : State) : Host.Outcome State Fault Refusal :=
  .next (s.runForm (.write .a .absX) [0x9D#8, lowByte addr, highByte addr])

/-- STX Zero page (0x86): R204, table T-ZP-W. -/
def execStxZp (op8 : Byte) (s : State) : Host.Outcome State Fault Refusal :=
  .next (s.runForm (.write .x .zp) [0x86#8, op8])

/-- STX Absolute (0x8E): R204, table T-ABS-W. -/
def execStxAbs (addr : Word) (s : State) : Host.Outcome State Fault Refusal :=
  .next (s.runForm (.write .x .abs) [0x8E#8, lowByte addr, highByte addr])

/-- STX Zero page,Y (0x96): R204, table T-ZPI-W. -/
def execStxZpY (op8 : Byte) (s : State) : Host.Outcome State Fault Refusal :=
  .next (s.runForm (.write .x .zpY) [0x96#8, op8])

/-- STY Zero page (0x84): R205, table T-ZP-W. -/
def execStyZp (op8 : Byte) (s : State) : Host.Outcome State Fault Refusal :=
  .next (s.runForm (.write .y .zp) [0x84#8, op8])

/-- STY Absolute (0x8C): R205, table T-ABS-W. -/
def execStyAbs (addr : Word) (s : State) : Host.Outcome State Fault Refusal :=
  .next (s.runForm (.write .y .abs) [0x8C#8, lowByte addr, highByte addr])

/-- STY Zero page,X (0x94): R205, table T-ZPI-W. -/
def execStyZpX (op8 : Byte) (s : State) : Host.Outcome State Fault Refusal :=
  .next (s.runForm (.write .y .zpX) [0x94#8, op8])

/-- TAX (0xAA): R206, table T-IMP. -/
def execTax (s : State) : Host.Outcome State Fault Refusal :=
  .next (s.runForm (.implied .tax) [0xAA#8])

/-- TAY (0xA8): R207, table T-IMP. -/
def execTay (s : State) : Host.Outcome State Fault Refusal :=
  .next (s.runForm (.implied .tay) [0xA8#8])

/-- TXA (0x8A): R208, table T-IMP. -/
def execTxa (s : State) : Host.Outcome State Fault Refusal :=
  .next (s.runForm (.implied .txa) [0x8A#8])

/-- TYA (0x98): R209, table T-IMP. -/
def execTya (s : State) : Host.Outcome State Fault Refusal :=
  .next (s.runForm (.implied .tya) [0x98#8])

/-- TSX (0xBA): R210, table T-IMP. -/
def execTsx (s : State) : Host.Outcome State Fault Refusal :=
  .next (s.runForm (.implied .tsx) [0xBA#8])

/-- TXS (0x9A): R211, table T-IMP. -/
def execTxs (s : State) : Host.Outcome State Fault Refusal :=
  .next (s.runForm (.implied .txs) [0x9A#8])

end Sys2Proof.Machine
end

