-- ==== Sys2Proof/Machine/StackFlags.lean ====
section
/-! DEFINITION. Stack, flag and no-operation instructions (R320 to R331): one meaning per instruction.  Each
runs the instruction's cycle table (Operands.lean) on the bytes of the instruction, one machine cycle a row. -/

namespace Sys2Proof.Machine

/-- PHA (0x48): R320, table T-PUSH. -/
def execPha (s : State) : Host.Outcome State Fault Refusal :=
  .next (s.runForm (.push .a) [0x48#8])

/-- PHP (0x08): R321, table T-PUSH. -/
def execPhp (s : State) : Host.Outcome State Fault Refusal :=
  .next (s.runForm (.push .p) [0x08#8])

/-- PLA (0x68): R322, table T-PULL. -/
def execPla (s : State) : Host.Outcome State Fault Refusal :=
  .next (s.runForm (.pull .a) [0x68#8])

/-- PLP (0x28): R323, table T-PULL. -/
def execPlp (s : State) : Host.Outcome State Fault Refusal :=
  .next (s.runForm (.pull .p) [0x28#8])

/-- CLC (0x18): R324, table T-IMP. -/
def execClc (s : State) : Host.Outcome State Fault Refusal :=
  .next (s.runForm (.implied .clc) [0x18#8])

/-- CLD (0xD8): R325, table T-IMP. -/
def execCld (s : State) : Host.Outcome State Fault Refusal :=
  .next (s.runForm (.implied .cld) [0xD8#8])

/-- CLI (0x58): R326, table T-IMP. -/
def execCli (s : State) : Host.Outcome State Fault Refusal :=
  .next (s.runForm (.implied .cli) [0x58#8])

/-- CLV (0xB8): R327, table T-IMP. -/
def execClv (s : State) : Host.Outcome State Fault Refusal :=
  .next (s.runForm (.implied .clv) [0xB8#8])

/-- SEC (0x38): R328, table T-IMP. -/
def execSec (s : State) : Host.Outcome State Fault Refusal :=
  .next (s.runForm (.implied .sec) [0x38#8])

/-- SED (0xF8): R329, table T-IMP. -/
def execSed (s : State) : Host.Outcome State Fault Refusal :=
  .next (s.runForm (.implied .sed) [0xF8#8])

/-- SEI (0x78): R330, table T-IMP. -/
def execSei (s : State) : Host.Outcome State Fault Refusal :=
  .next (s.runForm (.implied .sei) [0x78#8])

/-- NOP (0xEA): R331, table T-IMP. -/
def execNop (s : State) : Host.Outcome State Fault Refusal :=
  .next (s.runForm (.implied .nop) [0xEA#8])

end Sys2Proof.Machine
end

