-- ==== Sys2Proof/Machine/Dispatch.lean ====
section
/-! DEFINITION. The meaning of every instruction, one arm per constructor of Instr. -/

namespace Sys2Proof.Machine

def exec (i : Instr) (s : State) : Host.Outcome State Fault Refusal :=
  match i with
  | .ldaIndX op8 => Sys2Proof.Machine.execLdaIndX op8 s
  | .ldaZp op8 => Sys2Proof.Machine.execLdaZp op8 s
  | .ldaImm data => Sys2Proof.Machine.execLdaImm data s
  | .ldaAbs addr => Sys2Proof.Machine.execLdaAbs addr s
  | .ldaIndY op8 => Sys2Proof.Machine.execLdaIndY op8 s
  | .ldaZpX op8 => Sys2Proof.Machine.execLdaZpX op8 s
  | .ldaAbsY addr => Sys2Proof.Machine.execLdaAbsY addr s
  | .ldaAbsX addr => Sys2Proof.Machine.execLdaAbsX addr s
  | .ldxImm data => Sys2Proof.Machine.execLdxImm data s
  | .ldxZp op8 => Sys2Proof.Machine.execLdxZp op8 s
  | .ldxAbs addr => Sys2Proof.Machine.execLdxAbs addr s
  | .ldxZpY op8 => Sys2Proof.Machine.execLdxZpY op8 s
  | .ldxAbsY addr => Sys2Proof.Machine.execLdxAbsY addr s
  | .ldyImm data => Sys2Proof.Machine.execLdyImm data s
  | .ldyZp op8 => Sys2Proof.Machine.execLdyZp op8 s
  | .ldyAbs addr => Sys2Proof.Machine.execLdyAbs addr s
  | .ldyZpX op8 => Sys2Proof.Machine.execLdyZpX op8 s
  | .ldyAbsX addr => Sys2Proof.Machine.execLdyAbsX addr s
  | .staIndX op8 => Sys2Proof.Machine.execStaIndX op8 s
  | .staZp op8 => Sys2Proof.Machine.execStaZp op8 s
  | .staAbs addr => Sys2Proof.Machine.execStaAbs addr s
  | .staIndY op8 => Sys2Proof.Machine.execStaIndY op8 s
  | .staZpX op8 => Sys2Proof.Machine.execStaZpX op8 s
  | .staAbsY addr => Sys2Proof.Machine.execStaAbsY addr s
  | .staAbsX addr => Sys2Proof.Machine.execStaAbsX addr s
  | .stxZp op8 => Sys2Proof.Machine.execStxZp op8 s
  | .stxAbs addr => Sys2Proof.Machine.execStxAbs addr s
  | .stxZpY op8 => Sys2Proof.Machine.execStxZpY op8 s
  | .styZp op8 => Sys2Proof.Machine.execStyZp op8 s
  | .styAbs addr => Sys2Proof.Machine.execStyAbs addr s
  | .styZpX op8 => Sys2Proof.Machine.execStyZpX op8 s
  | .tax => Sys2Proof.Machine.execTax s
  | .tay => Sys2Proof.Machine.execTay s
  | .txa => Sys2Proof.Machine.execTxa s
  | .tya => Sys2Proof.Machine.execTya s
  | .tsx => Sys2Proof.Machine.execTsx s
  | .txs => Sys2Proof.Machine.execTxs s
  | .adcIndX op8 => Sys2Proof.Machine.execAdcIndX op8 s
  | .adcZp op8 => Sys2Proof.Machine.execAdcZp op8 s
  | .adcImm data => Sys2Proof.Machine.execAdcImm data s
  | .adcAbs addr => Sys2Proof.Machine.execAdcAbs addr s
  | .adcIndY op8 => Sys2Proof.Machine.execAdcIndY op8 s
  | .adcZpX op8 => Sys2Proof.Machine.execAdcZpX op8 s
  | .adcAbsY addr => Sys2Proof.Machine.execAdcAbsY addr s
  | .adcAbsX addr => Sys2Proof.Machine.execAdcAbsX addr s
  | .sbcIndX op8 => Sys2Proof.Machine.execSbcIndX op8 s
  | .sbcZp op8 => Sys2Proof.Machine.execSbcZp op8 s
  | .sbcImm data => Sys2Proof.Machine.execSbcImm data s
  | .sbcAbs addr => Sys2Proof.Machine.execSbcAbs addr s
  | .sbcIndY op8 => Sys2Proof.Machine.execSbcIndY op8 s
  | .sbcZpX op8 => Sys2Proof.Machine.execSbcZpX op8 s
  | .sbcAbsY addr => Sys2Proof.Machine.execSbcAbsY addr s
  | .sbcAbsX addr => Sys2Proof.Machine.execSbcAbsX addr s
  | .andIndX op8 => Sys2Proof.Machine.execAndIndX op8 s
  | .andZp op8 => Sys2Proof.Machine.execAndZp op8 s
  | .andImm data => Sys2Proof.Machine.execAndImm data s
  | .andAbs addr => Sys2Proof.Machine.execAndAbs addr s
  | .andIndY op8 => Sys2Proof.Machine.execAndIndY op8 s
  | .andZpX op8 => Sys2Proof.Machine.execAndZpX op8 s
  | .andAbsY addr => Sys2Proof.Machine.execAndAbsY addr s
  | .andAbsX addr => Sys2Proof.Machine.execAndAbsX addr s
  | .oraIndX op8 => Sys2Proof.Machine.execOraIndX op8 s
  | .oraZp op8 => Sys2Proof.Machine.execOraZp op8 s
  | .oraImm data => Sys2Proof.Machine.execOraImm data s
  | .oraAbs addr => Sys2Proof.Machine.execOraAbs addr s
  | .oraIndY op8 => Sys2Proof.Machine.execOraIndY op8 s
  | .oraZpX op8 => Sys2Proof.Machine.execOraZpX op8 s
  | .oraAbsY addr => Sys2Proof.Machine.execOraAbsY addr s
  | .oraAbsX addr => Sys2Proof.Machine.execOraAbsX addr s
  | .eorIndX op8 => Sys2Proof.Machine.execEorIndX op8 s
  | .eorZp op8 => Sys2Proof.Machine.execEorZp op8 s
  | .eorImm data => Sys2Proof.Machine.execEorImm data s
  | .eorAbs addr => Sys2Proof.Machine.execEorAbs addr s
  | .eorIndY op8 => Sys2Proof.Machine.execEorIndY op8 s
  | .eorZpX op8 => Sys2Proof.Machine.execEorZpX op8 s
  | .eorAbsY addr => Sys2Proof.Machine.execEorAbsY addr s
  | .eorAbsX addr => Sys2Proof.Machine.execEorAbsX addr s
  | .cmpIndX op8 => Sys2Proof.Machine.execCmpIndX op8 s
  | .cmpZp op8 => Sys2Proof.Machine.execCmpZp op8 s
  | .cmpImm data => Sys2Proof.Machine.execCmpImm data s
  | .cmpAbs addr => Sys2Proof.Machine.execCmpAbs addr s
  | .cmpIndY op8 => Sys2Proof.Machine.execCmpIndY op8 s
  | .cmpZpX op8 => Sys2Proof.Machine.execCmpZpX op8 s
  | .cmpAbsY addr => Sys2Proof.Machine.execCmpAbsY addr s
  | .cmpAbsX addr => Sys2Proof.Machine.execCmpAbsX addr s
  | .cpxImm data => Sys2Proof.Machine.execCpxImm data s
  | .cpxZp op8 => Sys2Proof.Machine.execCpxZp op8 s
  | .cpxAbs addr => Sys2Proof.Machine.execCpxAbs addr s
  | .cpyImm data => Sys2Proof.Machine.execCpyImm data s
  | .cpyZp op8 => Sys2Proof.Machine.execCpyZp op8 s
  | .cpyAbs addr => Sys2Proof.Machine.execCpyAbs addr s
  | .bitZp op8 => Sys2Proof.Machine.execBitZp op8 s
  | .bitAbs addr => Sys2Proof.Machine.execBitAbs addr s
  | .incZp op8 => Sys2Proof.Machine.execIncZp op8 s
  | .incAbs addr => Sys2Proof.Machine.execIncAbs addr s
  | .incZpX op8 => Sys2Proof.Machine.execIncZpX op8 s
  | .incAbsX addr => Sys2Proof.Machine.execIncAbsX addr s
  | .decZp op8 => Sys2Proof.Machine.execDecZp op8 s
  | .decAbs addr => Sys2Proof.Machine.execDecAbs addr s
  | .decZpX op8 => Sys2Proof.Machine.execDecZpX op8 s
  | .decAbsX addr => Sys2Proof.Machine.execDecAbsX addr s
  | .inx => Sys2Proof.Machine.execInx s
  | .iny => Sys2Proof.Machine.execIny s
  | .dex => Sys2Proof.Machine.execDex s
  | .dey => Sys2Proof.Machine.execDey s
  | .aslZp op8 => Sys2Proof.Machine.execAslZp op8 s
  | .aslA => Sys2Proof.Machine.execAslA s
  | .aslAbs addr => Sys2Proof.Machine.execAslAbs addr s
  | .aslZpX op8 => Sys2Proof.Machine.execAslZpX op8 s
  | .aslAbsX addr => Sys2Proof.Machine.execAslAbsX addr s
  | .lsrZp op8 => Sys2Proof.Machine.execLsrZp op8 s
  | .lsrA => Sys2Proof.Machine.execLsrA s
  | .lsrAbs addr => Sys2Proof.Machine.execLsrAbs addr s
  | .lsrZpX op8 => Sys2Proof.Machine.execLsrZpX op8 s
  | .lsrAbsX addr => Sys2Proof.Machine.execLsrAbsX addr s
  | .rolZp op8 => Sys2Proof.Machine.execRolZp op8 s
  | .rolA => Sys2Proof.Machine.execRolA s
  | .rolAbs addr => Sys2Proof.Machine.execRolAbs addr s
  | .rolZpX op8 => Sys2Proof.Machine.execRolZpX op8 s
  | .rolAbsX addr => Sys2Proof.Machine.execRolAbsX addr s
  | .rorZp op8 => Sys2Proof.Machine.execRorZp op8 s
  | .rorA => Sys2Proof.Machine.execRorA s
  | .rorAbs addr => Sys2Proof.Machine.execRorAbs addr s
  | .rorZpX op8 => Sys2Proof.Machine.execRorZpX op8 s
  | .rorAbsX addr => Sys2Proof.Machine.execRorAbsX addr s
  | .bcc off => Sys2Proof.Machine.execBcc off s
  | .bcs off => Sys2Proof.Machine.execBcs off s
  | .beq off => Sys2Proof.Machine.execBeq off s
  | .bne off => Sys2Proof.Machine.execBne off s
  | .bmi off => Sys2Proof.Machine.execBmi off s
  | .bpl off => Sys2Proof.Machine.execBpl off s
  | .bvc off => Sys2Proof.Machine.execBvc off s
  | .bvs off => Sys2Proof.Machine.execBvs off s
  | .jmpAbs addr => Sys2Proof.Machine.execJmpAbs addr s
  | .jmpInd addr => Sys2Proof.Machine.execJmpInd addr s
  | .jsr addr => Sys2Proof.Machine.execJsr addr s
  | .rts => Sys2Proof.Machine.execRts s
  | .rti => Sys2Proof.Machine.execRti s
  | .brk => Sys2Proof.Machine.execBrk s
  | .pha => Sys2Proof.Machine.execPha s
  | .php => Sys2Proof.Machine.execPhp s
  | .pla => Sys2Proof.Machine.execPla s
  | .plp => Sys2Proof.Machine.execPlp s
  | .clc => Sys2Proof.Machine.execClc s
  | .cld => Sys2Proof.Machine.execCld s
  | .cli => Sys2Proof.Machine.execCli s
  | .clv => Sys2Proof.Machine.execClv s
  | .sec => Sys2Proof.Machine.execSec s
  | .sed => Sys2Proof.Machine.execSed s
  | .sei => Sys2Proof.Machine.execSei s
  | .nop => Sys2Proof.Machine.execNop s

end Sys2Proof.Machine
end

