-- ==== Sys2Proof/Machine/Cycle.lean ====
section
/-! DEFINITION. The single-cycle engine: one call is one machine cycle (R150 to R153, R501, R502). -/

namespace Sys2Proof.Machine

/-- The sequence the CPU starts at an instruction boundary (R151, R604): the reset sequence if one is
due (R703), else a pending NMI, else an unmasked IRQ, else an instruction. -/
def Cpu.nextSeq (c : Cpu) : Seq :=
  if c.micro.seq = .reset then .reset
  else if c.nmiPending then .interrupt .nmi
  else if c.irqLine && !c.regs.p.i then .interrupt .irq
  else .instr

/-- The CPU is at an instruction boundary, about to fetch an instruction: not stopped, no reset sequence
due, no interrupt to take (R19, R151, R604). -/
abbrev State.atInstr (s : State) : Prop :=
  s.cpu.fault = none ∧ s.cpu.micro.cyc = 0 ∧ s.cpu.nextSeq = .instr

/-- Begin the next sequence at an instruction boundary (R151, R604). -/
def Cpu.beginSeq (c : Cpu) : Cpu :=
  match c.nextSeq with
  | .interrupt k => c.acceptInterrupt k
  | q => c.startSeq q

/-- The cycle table that IR selects (R153); an undocumented opcode that goes on past c1, as it does under
the policy `nop2`, runs T-IMP with no operation (R128). -/
def opcodeRows (ir : Byte) : List Row :=
  match formOfOpcode ir with
  | some f => f.rows
  | none => impliedRows .nop

/-- The rows of the running sequence. -/
def State.seqRows (s : State) : List Row :=
  match s.cpu.micro.seq with
  | .reset => resetRows s.cfg.resetSp
  | .interrupt k => interruptRows k
  | .instr => opcodeRows s.cpu.micro.ir

/-- The row of the CPU's next cycle, and whether it is the sequence's last; c1 of an instruction is the
opcode fetch (R151, R153). -/
def State.nextRow (s : State) : Option (Row × Bool) :=
  let k := s.cpu.micro.cyc
  if k = 0 ∧ s.cpu.micro.seq = .instr then some (opcodeRow s.cfg.illegalPolicy, false)
  else
    match s.seqRows[k]? with
    | some r => some (r, decide (k + 1 = s.seqRows.length))
    | none => none

/-- At an instruction boundary, begin the next sequence. -/
def State.beginIfBoundary (s : State) : State :=
  if s.cpu.micro.cyc = 0 then s.withCpu s.cpu.beginSeq else s

/-- `cpu.step()` (R151): nothing in a stopped CPU (R502), else the next row of the running sequence.  A
cycle number past the sequence's last row, which no run reaches, returns to the boundary. -/
def State.cpuStep (s : State) : State :=
  if s.cpu.fault.isSome then s
  else
    let t := s.beginIfBoundary
    match t.nextRow with
    | some (r, final) => t.rowStep r none final
    | none => t.startSeq .instr

/-- One machine cycle on the path `skipRender` says (R501): VIC, CPU, PIA. -/
def State.machineCycle (s : State) : State := (s.vicStep.cpuStep).piaStep

/-- Does the machine cycle that starts in this state complete a frame (R420, R422, R501)? -/
def State.completesFrame (s : State) : Bool := s.vic.endsFrame s.profile

/-- Go on to an instruction boundary, at most `n` cycles. -/
def State.finish : Nat → State → State
  | 0, s => s
  | n + 1, s => if s.cpu.micro.cyc = 0 then s else State.finish n s.machineCycle

/-- One machine cycle and on to the next instruction boundary; no sequence is longer than 7 cycles (R37). -/
def State.toBoundary (s : State) : State := State.finish 6 s.machineCycle

/-- The CPU's bus access in the machine cycle that starts in this state; `none` in a stopped CPU (R151,
R177). -/
def State.cpuAccess (s : State) : Option Access :=
  let t := s.vicStep.beginIfBoundary
  if t.cpu.fault.isSome then none else t.nextRow.map fun r => r.1.access t.cpu

end Sys2Proof.Machine
end

