-- ==== Sys2Proof/Machine/Fetch.lean ====
section
/-! DEFINITION. Fetching an instruction: each of its bytes as the bus gives it in the cycle that fetches
it (R105, R150, R179). -/

namespace Sys2Proof.Machine

/-- The byte at PC as the CPU would read it in the machine cycle that starts in this state: after the
cycle's VIC step (R100, R501). -/
def State.byteAtPc (s : State) : Byte := s.vicStep.readByte s.cpu.regs.pc

/-- The machine after n cycles. -/
def State.cycles : Nat → State → State
  | 0, s => s
  | n + 1, s => State.cycles n s.machineCycle

/-- The three bytes an instruction that starts in this state can fetch.  The opcode is read in c1, the
second byte in c2, the third in c3, but in c6, after the pushes, if the opcode is JSR's (R300). -/
def State.fetchBytes (s : State) : List Byte :=
  let opcode := s.byteAtPc
  let at3 := if opcode = 0x20#8 then 5 else 2
  [opcode, (State.cycles 1 s).byteAtPc, (State.cycles at3 s).byteAtPc]

/-- What an undocumented opcode does (R613): under `fault` its fetch records the fault and stops the CPU;
under `nop2` it is a two-cycle no-operation. -/
def State.takeIllegal (s : State) (opcode : Byte) : State :=
  match s.cfg.illegalPolicy with
  | .fault => State.runRows [opcodeRow .fault] [opcode] (s.startSeq .instr)
  | .nop2 => State.runRows (impliedRows .nop) [opcode] (s.startSeq .instr)

/-- Run the bytes fetched when they are no documented instruction (R128, R153). -/
def State.runUndecoded (s : State) : State := s.takeIllegal s.byteAtPc

/-- The reset sequence of `RESET_CYCLES = 7` (R703), from its c1 to the first instruction boundary. -/
def State.runReset (s : State) : State :=
  State.runRows (resetRows s.cfg.resetSp) [] (s.startSeq .reset)

/-- May a byte be placed under this CPU address so that a read gives it back: RAM or ROM? -/
def State.storable (s : State) (a : Word) : Bool :=
  match (s.chipAt a).1 with
  | .ram => true
  | .rom => true
  | _ => false

/-- Where `withFetchWord` puts an instruction: at PC if its three bytes are RAM or ROM cells, else at
0x2000, which is ROM (R85, R87). -/
def State.placeAt (s : State) : Word :=
  let pc := s.cpu.regs.pc
  if s.storable pc && s.storable (pc + 1) && s.storable (pc + 2) then pc else 0x2000#16

/-- The memory with three bytes placed from a CPU address on. -/
def State.placeBytes (s : State) (a : Word) (bytes : List Byte) : Memory :=
  let b (n : Nat) : Byte := bytes.getD n 0x00#8
  Cells.set (Cells.set (Cells.set s.mem (busAddr a) (b 0)) (busAddr (a + 1)) (b 1))
    (busAddr (a + 2)) (b 2)

/-- The CPU at an instruction boundary that fetches from an address: not stopped, no reset sequence due
and no interrupt to take. -/
def Cpu.readyAt (c : Cpu) (a : Word) : Cpu :=
  { (c.startSeq .instr).setPc a with fault := none, irqLine := false, nmiPending := false }

end Sys2Proof.Machine
end

