-- ==== Sys2Proof/Machine/Step.lean ====
section
/-! DEFINITION. One step: the machine goes on to the next instruction boundary. -/

namespace Sys2Proof.Machine

/-- One step.  A stopped CPU lets one machine cycle pass, in which the VIC and the PIA go on (R502).
Inside a sequence the rest of it runs.  At an instruction boundary the next sequence runs whole (R151,
R604): the reset sequence, an interrupt, or the instruction whose bytes the bus gives (R153, R179). -/
def step (s : State) : Host.Outcome State Fault Refusal :=
  if s.cpu.fault.isSome then .next s.machineCycle
  else if s.cpu.micro.cyc ≠ 0 then .next s.toBoundary
  else
    match s.cpu.nextSeq with
    | .reset => .next s.runReset
    | .interrupt k => .next (s.takeInterrupt k)
    | .instr =>
      match decode s.fetchBytes with
      | .ok (i, _) => exec i s
      | .error _ => .next s.runUndecoded

/-- The state with an instruction placed where the next step fetches it (spec/opcode_table.json's bit
numbering).  Where a program is loaded from outside the machine, this stands for that load (log entry 6). -/
def State.withFetchWord (s : State) (nbits w : Nat) : State :=
  { s with mem := s.placeBytes s.placeAt (tableBytes nbits w), cpu := s.cpu.readyAt s.placeAt }

end Sys2Proof.Machine
end

