-- ==== Sys2Proof/Machine/Interface.lean ====
section
/-! DEFINITION. The host's operations on the machine (R480, R500 to R530), each one atomic transition
between two machine cycles (R530). -/

namespace Sys2Proof.Machine

/-! ### Initialisation and reset -/

/-- What R702 leaves unspecified after `initialize`, as an input: A, X, Y, the flags but I, and the
latches; PC before the reset sequence of `RESET_CYCLES = 7` too (R703). -/
structure PowerOn where
  regs  : Regs
  micro : Micro
deriving DecidableEq, Repr

/-- The checks of R521 and the constraints of R87 and R481, in order; `none` if all hold. -/
def configProblem (c : Config) (p : Profile) (images : List (List Byte))
    (preloads : List (Nat × List Byte)) : Option Refusal :=
  if !romImagesCounted images then some .romImageMissing
  else if !romImagesSized images then some .romImageWrongSize
  else if !busMapDisjoint c.busMap then some .busMapOverlap
  else if !(busMapInSpace c.busMap && busMapCovers c.busMap) then some .busMapGap
  else if !(busMapWorks c && c.buttonBit.injective) then some .parameterConstraint
  else if !preloads.all (preloadFits c.busMap) then some .preloadWrongSize
  else if !p.valid then some .profileInvalid
  else none

/-- ROM image i is placed at bus 0x2000 + i · 0x400 (R85). -/
def loadImages (m : Memory) (images : List (List Byte)) : Memory := Cells.load m 0x2000 images.flatten

/-- A pre-loaded range; a nibble-RAM cell keeps the low four bits (R77, R83). -/
def loadRange (c : Config) (m : Memory) (q : Nat × List Byte) : Memory :=
  Cells.load m q.1
    (if (owner c.busMap q.1).1 = .nibbleRam then q.2.map (· &&& 0x0F#8) else q.2)

/-- The memory after initialisation: RAM and nibble RAM 0 but for pre-loads, ROM the images (R520).  R83
speaks of one pre-load for a range; of two for the same range the later in the list wins, and the images
win over a pre-load of ROM. DESIGN CHOICE (log entries 19 and 28), unsafe. -/
def initialMemory (c : Config) (images : List (List Byte)) (preloads : List (Nat × List Byte)) : Memory :=
  loadImages (preloads.foldl (loadRange c) []) images

/-- The machine before its CPU reset (R520, steps 2 to 5). -/
def unresetState (c : Config) (p : Profile) (m : Memory) (on : PowerOn) : State :=
  { cfg := c
    profile := p
    cpu := { regs := on.regs, micro := on.micro, fault := none, nmiLine := false, irqLine := false
             nmiPending := false }
    mem := m
    vic := Vic.initial c
    pia := Pia.reset
    sig := 0#8
    paused := false
    skipRender := false
    draws := 0 }

/-- `initialize(profile)` (R520): the configuration is checked before any state exists (R521); the
unspecified power-on values and the ROM images are inputs. -/
def startMachine (c : Config) (p : Profile) (images : List (List Byte))
    (preloads : List (Nat × List Byte)) (on : PowerOn) : Host.Outcome State Fault Refusal :=
  match configProblem c p images preloads with
  | some r => .refused r
  | none => .next (unresetState c p (initialMemory c images preloads) on).cpuReset

/-- `reset()` (R522): the CPU reset and the PIA reset, nothing else. -/
def State.lifecycleReset (s : State) : State := { s.cpuReset with pia := Pia.reset }

/-! ### Stepping -/

/-- The host's choice of path for the cycles to come (R501, R503). -/
def State.setSkip (s : State) (skip : Bool) : State := { s with skipRender := skip }

/-- `stepOneCycle(skipRender)`, with the value it returns (R501). -/
def State.stepOneCycle (s : State) (skip : Bool) : State × Bool :=
  ((s.setSkip skip).machineCycle, s.completesFrame)

/-- `(W / 4) * H` (R436, R525). -/
def cyclesPerFrame (p : Profile) : Nat := p.width / 4 * p.height

/-- Step until a frame completes, at most `n` cycles. -/
def State.stepUntilFrame (skip : Bool) : Nat → State → State
  | 0, s => s
  | n + 1, s =>
    match s.stepOneCycle skip with
    | (t, true) => t
    | (t, false) => State.stepUntilFrame skip n t

/-- `runUntilFrame(skipRender)` (R503): a frame completes within `cyclesPerFrame` cycles. -/
def State.runUntilFrame (s : State) (skip : Bool) : State :=
  State.stepUntilFrame skip (cyclesPerFrame s.profile) s

/-- `setPaused(b)` (R516). -/
def State.setPaused (s : State) (b : Bool) : State := { s with paused := b }

/-- One turn of the host's stepping loop, which alone reads `paused` (R516, R530).  Of the worker's two
operations (R530) a turn performs the one `wholeFrame` says; it looks at `paused` once, before it.
DESIGN CHOICE (log entry 24). -/
def State.workerTurn (s : State) (wholeFrame skip : Bool) : State :=
  if s.paused then s
  else if wholeFrame then s.runUntilFrame skip
  else (s.stepOneCycle skip).1

/-! ### Frames, input, geometry -/

/-- The pixels of a frame as palette indices, row-major over the total area (R44, R511). -/
def State.pixelIndices (s : State) (f : Frame) : List (BitVec 4) :=
  (List.range (s.profile.width * s.profile.height)).map f.pixels.get

/-- The machine after the frame not being written is taken. -/
def State.frameTaken (s : State) : State :=
  let k := s.vic.active.other
  { s with vic := s.vic.setFrame k { s.vic.frame k with ready := false } }

/-- `PALETTE[index]`, the packed colour of a palette index (R434). -/
def State.colour (s : State) (index : BitVec 4) : Nat := s.cfg.palette.get index.toFin

/-- `getReadyFrame()` (R511). -/
def State.getReadyFrame (s : State) : Option (List Nat) × State :=
  let f := s.vic.frame s.vic.active.other
  if f.ready then (some ((s.pixelIndices f).map s.colour), s.frameTaken) else (none, s)

/-- The bit of a button (R481). -/
def buttonBit (b : ButtonBits) : Button → Fin 8
  | .fire => b.fire
  | .coin => b.coin
  | .left => b.left
  | .right => b.right
  | .start => b.start

/-- `BUTTON_BIT[b]` as a mask (R480). -/
def State.buttonMask (s : State) (b : Button) : Byte := 0x01#8 <<< (buttonBit s.cfg.buttonBit b).val

/-- `signalPressed(b)` (R480). -/
def State.signalPressed (s : State) (b : Button) : State := { s with sig := s.sig ||| s.buttonMask b }

/-- `signalReleased(b)` (R480). -/
def State.signalReleased (s : State) (b : Button) : State :=
  { s with sig := s.sig &&& ~~~s.buttonMask b }

/-- What the geometry query reports: R525's list, and the cycle rate, which R436 and R725 call reported and
R525 does not list. DEDUCED (log entry 26). -/
structure Geometry where
  width          : Nat
  height         : Nat
  visibleWidth   : Nat
  visibleHeight  : Nat
  hOffset        : Nat
  vOffset        : Nat
  fpsTenths      : Nat
  cyclesPerFrame : Nat
  cycleRate      : Nat
deriving DecidableEq, Repr

/-- The geometry query: it reads no chip and changes nothing (R436, R525). -/
def State.geometry (s : State) : Geometry :=
  let p := s.profile
  { width := p.width, height := p.height, visibleWidth := p.visibleWidth
    visibleHeight := p.visibleHeight, hOffset := p.hOffset, vOffset := p.vOffset
    fpsTenths := p.fpsTenths, cyclesPerFrame := cyclesPerFrame p
    cycleRate := p.cycleRate }

/-- The operations the host may take between two machine cycles (R530). -/
inductive HostOp where
  | reset
  | setPaused (b : Bool)
  | stepOneCycle (skip : Bool)
  | runUntilFrame (skip : Bool)
  | signalPressed (b : Button)
  | signalReleased (b : Button)
  | getReadyFrame
  | geometry
deriving DecidableEq, Repr

/-- The machine after an operation of the host (R530). -/
def State.hostStep (s : State) : HostOp → State
  | .reset => s.lifecycleReset
  | .setPaused b => s.setPaused b
  | .stepOneCycle skip => (s.stepOneCycle skip).1
  | .runUntilFrame skip => s.runUntilFrame skip
  | .signalPressed b => s.signalPressed b
  | .signalReleased b => s.signalReleased b
  | .getReadyFrame => s.getReadyFrame.2
  | .geometry => s

end Sys2Proof.Machine
end

