-- ==== Sys2Proof/Machine/Run.lean ====
section
/-! DEFINITION. The end of a run (R532): a fixed number of machine cycles, or the program's idle loop. -/

namespace Sys2Proof.Machine

/-- Is the form a JMP (R299)? -/
def Form.isJmp : Form → Bool
  | .jmpAbs | .jmpInd => true
  | .read _ _ | .write _ _ | .rmw _ _ | .implied _ | .branch _ | .jsr | .rts | .rti | .brk
  | .push _ | .pull _ => false

/-- Is the machine at an instruction boundary whose PC is the address of a JMP to itself (R532)?  Both
forms of JMP count, and all 16 bits of PC are compared. DEDUCED (log entry 27). -/
def State.atIdleLoop (s : State) : Bool :=
  decide s.atInstr &&
    match decode s.fetchBytes with
    | .ok (i, _) =>
      (formOf i).isJmp && (s.runForm (formOf i) (encode i)).cpu.regs.pc == s.cpu.regs.pc
    | .error _ => false

/-- The first instruction boundary at an idle loop within `n` steps (R532); `none` if there is none. -/
def State.runToIdle : Nat → State → Option State
  | 0, s => if s.atIdleLoop then some s else none
  | n + 1, s =>
    if s.atIdleLoop then some s
    else
      match step s with
      | .next t => State.runToIdle n t
      | .fault _ => none
      | .refused _ => none

/-- The two ends of a run (R532). -/
inductive RunEnd where
  | afterCycles (n : Nat)
  | atIdle
deriving DecidableEq, Repr

/-- The end state of a run from a state (R532). -/
def RunEnd.reaches (e : RunEnd) (s t : State) : Prop :=
  match e with
  | .afterCycles n => State.cycles n s = t
  | .atIdle => ∃ n, State.runToIdle n s = some t

end Sys2Proof.Machine
end

