-- ==== Sys2Proof/Machine/View.lean ====
section
/-! DEFINITION. The instruction-level view of R179, in which claims are stated: what an instruction does
as a list of bus accesses and one change of the registers, written from the addressing modes' effective
addresses (R157 to R166) and not from the rows the meanings run. -/

namespace Sys2Proof.Machine

/-- A machine cycle in which the CPU reads an address, seen from outside the CPU (R100, R501). -/
def State.readCycle (s : State) (a : Word) : State := (s.vicStep.afterRead a).piaStep

/-- A machine cycle in which the CPU writes an address, seen from outside the CPU. -/
def State.writeCycle (s : State) (a : Word) (v : Byte) : State := (s.vicStep.writeByte a v).piaStep

/-- The byte a CPU read of an address returns in the machine cycle that starts in this state. -/
def State.readAt (s : State) (a : Word) : Byte := s.vicStep.readByte a

/-- Machine cycles in which the CPU reads the listed addresses in order. -/
def State.reads (s : State) (l : List Word) : State := l.foldl State.readCycle s

/-- How an instruction reaches its operand: the addresses it reads in the cycles before the operand's
own access, the effective address, and whether a page was crossed. -/
structure OperandView where
  reads   : List Word
  ea      : Word
  crossed : Bool

/-- An index added to a 16-bit base (R162, R164, R173, R175, R176): the uncorrected address is read when
the page is crossed, and always by the `write` and `rmw` classes. -/
def indexedView (pre : List Word) (base : Word) (idx : Byte) (always : Bool) : OperandView :=
  let ea := base + idx.setWidth 16
  let crossed := carriesOut (lowByte base) idx
  { reads := if crossed || always then pre ++ [word (highByte base) (lowByte ea)] else pre
    ea := ea
    crossed := crossed }

/-- The operand of an addressing mode (R157 to R164); `bytes` are the instruction's, and `always` says
that the class is `write` or `rmw`. -/
def State.operandView (s : State) (m : Mode) (bytes : List Byte) (always : Bool) : OperandView :=
  let q := s.cpu.regs
  let b1 := bytes.getD 1 0x00#8
  let b2 := bytes.getD 2 0x00#8
  match m with
  | .imm => { reads := [q.pc], ea := q.pc + 1, crossed := false }
  | .zp => { reads := [q.pc, q.pc + 1], ea := zeroPage b1, crossed := false }
  | .zpX => { reads := [q.pc, q.pc + 1, zeroPage b1], ea := zeroPage (b1 + q.x), crossed := false }
  | .zpY => { reads := [q.pc, q.pc + 1, zeroPage b1], ea := zeroPage (b1 + q.y), crossed := false }
  | .abs => { reads := [q.pc, q.pc + 1, q.pc + 2], ea := word b2 b1, crossed := false }
  | .absX => indexedView [q.pc, q.pc + 1, q.pc + 2] (word b2 b1) q.x always
  | .absY => indexedView [q.pc, q.pc + 1, q.pc + 2] (word b2 b1) q.y always
  | .indX =>
    let p := b1 + q.x
    let v := s.reads [q.pc, q.pc + 1, zeroPage b1]
    let lo := v.readAt (zeroPage p)
    let hi := (v.readCycle (zeroPage p)).readAt (zeroPage (p + 1))
    { reads := [q.pc, q.pc + 1, zeroPage b1, zeroPage p, zeroPage (p + 1)], ea := word hi lo
      crossed := false }
  | .indY =>
    let v := s.reads [q.pc, q.pc + 1]
    let lo := v.readAt (zeroPage b1)
    let hi := (v.readCycle (zeroPage b1)).readAt (zeroPage (b1 + 1))
    indexedView [q.pc, q.pc + 1, zeroPage b1, zeroPage (b1 + 1)] (word hi lo) q.y always

/-- The instruction `i` completes from `s`: `exec` answers a next state at an instruction boundary that
agrees with `u` in everything outside the CPU and holds the registers `q`; the fault record and the
interrupt lines are unchanged. -/
def Completes (i : Instr) (s u : State) (q : Regs) : Prop :=
  ∃ t, exec i s = .next t ∧ t = u.withCpu t.cpu ∧ t.cpu.regs = q ∧
    t.cpu.micro.cyc = 0 ∧ t.cpu.micro.seq = .instr ∧ t.cpu.fault = s.cpu.fault ∧
    t.cpu.nmiLine = s.cpu.nmiLine ∧ t.cpu.irqLine = s.cpu.irqLine ∧
    t.cpu.nmiPending = s.cpu.nmiPending

/-- A row of an instruction's rule: instruction, opcode, addressing mode, base cycle count. -/
structure RuleRow where
  i      : Instr
  opcode : Byte
  mode   : Mode
  cycles : Nat

/-- The registers with PC past an instruction (R33, R150). -/
def Regs.past (q : Regs) (i : Instr) : Regs :=
  { q with pc := q.pc + BitVec.ofNat 16 (encode i).length }

/-- A `read`-class instruction (R154): its opcode, its cycles (one more if a page is crossed, R176), and
its completion with the registers `f` gives from the operand byte.  The operand is the instruction's own
byte in Immediate mode, else the byte the bus returns in the last cycle. -/
def ReadResult (s : State) (r : RuleRow) (f : Regs → Byte → Regs) : Prop :=
  let w := s.operandView r.mode (encode r.i) false
  let v := s.reads w.reads
  let d := if r.mode = .imm then (encode r.i).getD 1 0x00#8 else v.readAt w.ea
  r.i.opcode = r.opcode ∧ w.reads.length + 1 = r.cycles + w.crossed.toNat ∧
    Completes r.i s (v.readCycle w.ea) (f (s.cpu.regs.past r.i) d)

/-- A `write`-class instruction (R154): the register's byte is written in the last cycle, and nothing in
the CPU but PC changes. -/
def WriteResult (s : State) (r : RuleRow) (value : Regs → Byte) : Prop :=
  let w := s.operandView r.mode (encode r.i) true
  r.i.opcode = r.opcode ∧ w.reads.length + 1 = r.cycles ∧
    Completes r.i s ((s.reads w.reads).writeCycle w.ea (value s.cpu.regs)) (s.cpu.regs.past r.i)

/-- An `rmw`-class instruction (R154, R168): read, write back unmodified, write `f(data)`; `f` gives the
byte and the flags from the flags before the instruction and the byte read. -/
def RmwResult (s : State) (r : RuleRow) (f : Flags → Byte → Byte × Flags) : Prop :=
  let w := s.operandView r.mode (encode r.i) true
  let v := s.reads w.reads
  let d := v.readAt w.ea
  let o := f s.cpu.regs.p d
  r.i.opcode = r.opcode ∧ w.reads.length + 3 = r.cycles ∧
    Completes r.i s (((v.readCycle w.ea).writeCycle w.ea d).writeCycle w.ea o.1)
      { s.cpu.regs.past r.i with p := o.2 }

/-- A one-byte instruction of table T-IMP (R167): two reads and one change of the registers. -/
def ImpliedResult (s : State) (i : Instr) (opcode : Byte) (f : Regs → Regs) : Prop :=
  i.opcode = opcode ∧
    Completes i s (s.reads [s.cpu.regs.pc, s.cpu.regs.pc + 1]) (f (s.cpu.regs.past i))

/-- A conditional branch (R290). -/
def BranchResult (s : State) (i : Instr) (opcode : Byte) (off : Byte) (taken : Bool) : Prop :=
  let q := s.cpu.regs
  let pcn := q.pc + 2
  let target := pcn + sext16 off
  i.opcode = opcode ∧
    if taken = false then Completes i s (s.reads [q.pc, q.pc + 1]) { q with pc := pcn }
    else if highByte target = highByte pcn then
      Completes i s (s.reads [q.pc, q.pc + 1, pcn]) { q with pc := target }
    else
      Completes i s (s.reads [q.pc, q.pc + 1, pcn, word (highByte pcn) (lowByte target)])
        { q with pc := target }

/-- The VIC as R41, R43, R44 and R704 give it at initialisation: the registers, the raster state, the two
frames.  (The derived fields are those of the registers by the invariant.) -/
def Vic.startsWith (w : Vic) (reg : Vector Byte 16) : Prop :=
  w.reg = reg ∧ w.h = 0 ∧ w.v = 0 ∧ w.matrixCounter = 0x0000#16 ∧ w.rowStart = 0x0000#16 ∧
  w.cellDepth = 0 ∧ w.fetchToggle = .screenCode ∧ w.cellCode = 0x00#8 ∧ w.cellColour = 0x0#4 ∧
  w.lastFetch = 0x00#8 ∧ w.pixelCursor = 0 ∧ w.active = .zero ∧
  ∀ k, (w.frame k).ready = false ∧ ∀ i, (w.frame k).pixels.get i = 0x0#4

/-- The addresses an instruction stores to, in the order of its writes (R154, R168, R300, R303, R320,
R321); none for a form that stores nothing. -/
def State.storedAt (s : State) (i : Instr) : List Word :=
  let sp := s.cpu.regs.s
  match formOf i with
  | .write _ m => [(s.operandView m (encode i) true).ea]
  | .rmw _ m => [(s.operandView m (encode i) true).ea]
  | .jsr => [stackAddr sp, stackAddr (sp - 1)]
  | .brk => [stackAddr sp, stackAddr (sp - 1), stackAddr (sp - 2)]
  | .push _ => [stackAddr sp]
  | .read _ _ | .implied _ | .branch _ | .jmpAbs | .jmpInd | .rts | .rti | .pull _ => []

/-- The 105 undocumented opcodes, as R128 lists them. -/
def undocumentedOpcodes : List Byte :=
  [0x02#8, 0x03#8, 0x04#8, 0x07#8, 0x0B#8, 0x0C#8, 0x0F#8, 0x12#8, 0x13#8, 0x14#8,
   0x17#8, 0x1A#8, 0x1B#8, 0x1C#8, 0x1F#8, 0x22#8, 0x23#8, 0x27#8, 0x2B#8, 0x2F#8,
   0x32#8, 0x33#8, 0x34#8, 0x37#8, 0x3A#8, 0x3B#8, 0x3C#8, 0x3F#8, 0x42#8, 0x43#8,
   0x44#8, 0x47#8, 0x4B#8, 0x4F#8, 0x52#8, 0x53#8, 0x54#8, 0x57#8, 0x5A#8, 0x5B#8] ++
  [0x5C#8, 0x5F#8, 0x62#8, 0x63#8, 0x64#8, 0x67#8, 0x6B#8, 0x6F#8, 0x72#8, 0x73#8,
   0x74#8, 0x77#8, 0x7A#8, 0x7B#8, 0x7C#8, 0x7F#8, 0x80#8, 0x82#8, 0x83#8, 0x87#8,
   0x89#8, 0x8B#8, 0x8F#8, 0x92#8, 0x93#8, 0x97#8, 0x9B#8, 0x9C#8, 0x9E#8, 0x9F#8,
   0xA3#8, 0xA7#8, 0xAB#8, 0xAF#8, 0xB2#8, 0xB3#8, 0xB7#8, 0xBB#8, 0xBF#8, 0xC2#8] ++
  [0xC3#8, 0xC7#8, 0xCB#8, 0xCF#8, 0xD2#8, 0xD3#8, 0xD4#8, 0xD7#8, 0xDA#8, 0xDB#8,
   0xDC#8, 0xDF#8, 0xE2#8, 0xE3#8, 0xE7#8, 0xEB#8, 0xEF#8, 0xF2#8, 0xF3#8, 0xF4#8,
   0xF7#8, 0xFA#8, 0xFB#8, 0xFC#8, 0xFF#8]

end Sys2Proof.Machine
end

