-- ==== Sys2Proof/Safety.lean ====
section
/-! DEFINITION. What claims about runs are stated in: the invariant of the machine, instruction
boundaries, and runs of steps. -/

namespace Sys2Proof.Machine

/-- The storage the memory may hold: canonical, inside the 14-bit space, cells only where a storage chip
is, and a nibble-RAM cell below 16 (R40, R70, R77). -/
abbrev State.memOk (s : State) : Prop :=
  Memory.wf s.mem = true ∧
  ∀ p ∈ s.mem, p.1 < 0x4000 ∧
    ((owner s.cfg.busMap p.1).1 = .ram ∨ (owner s.cfg.busMap p.1).1 = .rom ∨
      ((owner s.cfg.busMap p.1).1 = .nibbleRam ∧ p.2.toNat < 16))

/-- The micro-step state of a CPU that runs its sequences from their first row (R37), and inactive
interrupt lines (R39, R603). -/
abbrev State.cpuOk (s : State) : Prop :=
  (s.cpu.micro.cyc = 0 ∨ s.cpu.micro.cyc < s.seqRows.length) ∧
  s.cpu.micro.seq ≠ .interrupt .nmi ∧ s.cpu.micro.seq ≠ .interrupt .irq ∧
  s.cpu.nmiLine = false ∧ s.cpu.irqLine = false ∧ s.cpu.nmiPending = false

/-- A frame's pixels: canonical and inside the frame (R44, R431). -/
abbrev Frame.ok (p : Profile) (f : Frame) : Prop :=
  Cells.wf f.pixels = true ∧ ∀ q ∈ f.pixels, q.1 < p.width * p.height

/-- The VIC: counters in their ranges (R43), derived fields and the multicolour table
those of the registers and the cell colour (R42, R417, R434), frames in form, and the frame being written not ready (R44, R424). -/
abbrev State.vicOk (s : State) : Prop :=
  s.vic.h % 4 = 0 ∧ s.vic.h < s.profile.width ∧ s.vic.v < s.profile.height ∧
  s.vic.cellDepth < 16 ∧ s.vic.derived = derive s.cfg s.vic.reg ∧
  s.vic.mc = multicolour s.vic.derived s.vic.cellColour ∧
  s.vic.frame0.ok s.profile ∧ s.vic.frame1.ok s.profile ∧
  (s.vic.frame s.vic.active).ready = false

/-- The PIA's input latches hold 0 (R482). -/
abbrev State.piaOk (s : State) : Prop :=
  s.pia.portA.latch = 0#8 ∧ s.pia.portB.latch = 0#8

/-- The invariant of the machine; every step and every host operation keeps it. -/
abbrev State.Inv (s : State) : Prop :=
  s.profile.valid = true ∧ s.memOk ∧ s.cpuOk ∧ s.vicOk ∧ s.piaOk

/-- Two states with the same configuration (R10). -/
abbrev sameConfig (s t : State) : Prop := t.cfg = s.cfg ∧ t.profile = s.profile

/-- Runs of steps. -/
inductive Steps : State → State → Prop where
  | refl (s : State) : Steps s s
  | step {s t u : State} (h : step s = .next t) (r : Steps t u) : Steps s u

/-- A run is safe if it never stops: from every state it reaches, a step answers a next state. -/
def RunsOn (s : State) : Prop := ∀ t, Steps s t → ∃ u, step t = .next u

end Sys2Proof.Machine
end

