-- ==== Sys2Proof/Certificates/Slice0/Obligations.lean ====
section
/-! DEFINITION. The statements about the model, for the provers: Obligations.<Name>.  Each docstring
says which rules of the spec it formalises or rests on. -/

section Statements

open Sys2Proof Sys2Proof.Machine

/-- LDA loads A in all eight modes, sets N and Z, and changes nothing else but PC.  Formalises
R200. -/
def Obligations.LdaLoadsItsOperand : Prop :=
  ∀ (s : State) (b : Byte) (w : Word),
    (∀ r ∈
      [⟨.ldaImm b, 0xA9#8, .imm, 2⟩, ⟨.ldaZp b, 0xA5#8, .zp, 3⟩, ⟨.ldaZpX b, 0xB5#8, .zpX, 4⟩,
       ⟨.ldaAbs w, 0xAD#8, .abs, 4⟩, ⟨.ldaAbsX w, 0xBD#8, .absX, 4⟩,
       ⟨.ldaAbsY w, 0xB9#8, .absY, 4⟩, ⟨.ldaIndX b, 0xA1#8, .indX, 6⟩,
       ⟨.ldaIndY b, 0xB1#8, .indY, 5⟩],
      ReadResult s r fun q d =>
        { q with a := d, p := { q.p with n := d.getLsbD 7, z := decide (d = 0x00#8) } })

/-- LDX and LDY load X and Y in all their modes and set N and Z.  Formalises R201, R202. -/
def Obligations.LdxAndLdyLoadTheirOperand : Prop :=
  ∀ (s : State) (b : Byte) (w : Word),
    (∀ r ∈
      [⟨.ldxImm b, 0xA2#8, .imm, 2⟩, ⟨.ldxZp b, 0xA6#8, .zp, 3⟩, ⟨.ldxZpY b, 0xB6#8, .zpY, 4⟩,
       ⟨.ldxAbs w, 0xAE#8, .abs, 4⟩, ⟨.ldxAbsY w, 0xBE#8, .absY, 4⟩],
      ReadResult s r fun q d =>
        { q with x := d, p := { q.p with n := d.getLsbD 7, z := decide (d = 0x00#8) } }) ∧
    (∀ r ∈
      [⟨.ldyImm b, 0xA0#8, .imm, 2⟩, ⟨.ldyZp b, 0xA4#8, .zp, 3⟩, ⟨.ldyZpX b, 0xB4#8, .zpX, 4⟩,
       ⟨.ldyAbs w, 0xAC#8, .abs, 4⟩, ⟨.ldyAbsX w, 0xBC#8, .absX, 4⟩],
      ReadResult s r fun q d =>
        { q with y := d, p := { q.p with n := d.getLsbD 7, z := decide (d = 0x00#8) } })

/-- STA, STX and STY write their register in the last cycle and change no register or flag but PC.
Formalises R203, R204, R205. -/
def Obligations.StoresWriteTheirRegister : Prop :=
  ∀ (s : State) (b : Byte) (w : Word),
    (∀ r ∈
      [⟨.staZp b, 0x85#8, .zp, 3⟩, ⟨.staZpX b, 0x95#8, .zpX, 4⟩, ⟨.staAbs w, 0x8D#8, .abs, 4⟩,
       ⟨.staAbsX w, 0x9D#8, .absX, 5⟩, ⟨.staAbsY w, 0x99#8, .absY, 5⟩,
       ⟨.staIndX b, 0x81#8, .indX, 6⟩, ⟨.staIndY b, 0x91#8, .indY, 6⟩],
      WriteResult s r fun q => q.a) ∧
    (∀ r ∈
      [⟨.stxZp b, 0x86#8, .zp, 3⟩, ⟨.stxZpY b, 0x96#8, .zpY, 4⟩, ⟨.stxAbs w, 0x8E#8, .abs, 4⟩],
      WriteResult s r fun q => q.x) ∧
    (∀ r ∈
      [⟨.styZp b, 0x84#8, .zp, 3⟩, ⟨.styZpX b, 0x94#8, .zpX, 4⟩, ⟨.styAbs w, 0x8C#8, .abs, 4⟩],
      WriteResult s r fun q => q.y)

/-- TAX, TAY, TXA, TYA, TSX copy and set N and Z; TXS copies and writes no flag.  Formalises R206,
R207, R208, R209, R210, R211. -/
def Obligations.TransfersCopyTheirSource : Prop :=
  ∀ s : State,
    ImpliedResult s .tax 0xAA#8 (fun q =>
        { q with x := q.a, p := { q.p with n := q.a.getLsbD 7, z := decide (q.a = 0x00#8) } }) ∧
    ImpliedResult s .tay 0xA8#8 (fun q =>
        { q with y := q.a, p := { q.p with n := q.a.getLsbD 7, z := decide (q.a = 0x00#8) } }) ∧
    ImpliedResult s .txa 0x8A#8 (fun q =>
        { q with a := q.x, p := { q.p with n := q.x.getLsbD 7, z := decide (q.x = 0x00#8) } }) ∧
    ImpliedResult s .tya 0x98#8 (fun q =>
        { q with a := q.y, p := { q.p with n := q.y.getLsbD 7, z := decide (q.y = 0x00#8) } }) ∧
    ImpliedResult s .tsx 0xBA#8 (fun q =>
        { q with x := q.s, p := { q.p with n := q.s.getLsbD 7, z := decide (q.s = 0x00#8) } }) ∧
    ImpliedResult s .txs 0x9A#8 (fun q => { q with s := q.x })

/-- ADC in all eight modes writes A, N, V, Z and C from add_bin or, with D set, from add_dec.
Formalises R234. -/
def Obligations.AdcAddsWithCarry : Prop :=
  ∀ (s : State) (b : Byte) (w : Word),
    (∀ r ∈
      [⟨.adcImm b, 0x69#8, .imm, 2⟩, ⟨.adcZp b, 0x65#8, .zp, 3⟩, ⟨.adcZpX b, 0x75#8, .zpX, 4⟩,
       ⟨.adcAbs w, 0x6D#8, .abs, 4⟩, ⟨.adcAbsX w, 0x7D#8, .absX, 4⟩,
       ⟨.adcAbsY w, 0x79#8, .absY, 4⟩, ⟨.adcIndX b, 0x61#8, .indX, 6⟩,
       ⟨.adcIndY b, 0x71#8, .indY, 5⟩],
      ReadResult s r fun q d =>
        let o := if q.p.d then addDec q.a d q.p.c else addBin q.a d q.p.c
        { q with a := o.r, p := { q.p with n := o.n, v := o.v, z := o.z, c := o.c } })

/-- SBC in all eight modes writes A, N, V, Z and C from sub_bin or, with D set, from sub_dec.
Formalises R235. -/
def Obligations.SbcSubtractsWithBorrow : Prop :=
  ∀ (s : State) (b : Byte) (w : Word),
    (∀ r ∈
      [⟨.sbcImm b, 0xE9#8, .imm, 2⟩, ⟨.sbcZp b, 0xE5#8, .zp, 3⟩, ⟨.sbcZpX b, 0xF5#8, .zpX, 4⟩,
       ⟨.sbcAbs w, 0xED#8, .abs, 4⟩, ⟨.sbcAbsX w, 0xFD#8, .absX, 4⟩,
       ⟨.sbcAbsY w, 0xF9#8, .absY, 4⟩, ⟨.sbcIndX b, 0xE1#8, .indX, 6⟩,
       ⟨.sbcIndY b, 0xF1#8, .indY, 5⟩],
      ReadResult s r fun q d =>
        let o := if q.p.d then subDec q.a d q.p.c else subBin q.a d q.p.c
        { q with a := o.r, p := { q.p with n := o.n, v := o.v, z := o.z, c := o.c } })

/-- AND, ORA and EOR in all eight modes combine the operand into A and set N and Z.  Formalises
R236, R237, R238. -/
def Obligations.LogicCombinesIntoTheAccumulator : Prop :=
  ∀ (s : State) (b : Byte) (w : Word),
    (∀ r ∈
      [⟨.andImm b, 0x29#8, .imm, 2⟩, ⟨.andZp b, 0x25#8, .zp, 3⟩, ⟨.andZpX b, 0x35#8, .zpX, 4⟩,
       ⟨.andAbs w, 0x2D#8, .abs, 4⟩, ⟨.andAbsX w, 0x3D#8, .absX, 4⟩,
       ⟨.andAbsY w, 0x39#8, .absY, 4⟩, ⟨.andIndX b, 0x21#8, .indX, 6⟩,
       ⟨.andIndY b, 0x31#8, .indY, 5⟩],
      ReadResult s r fun q d =>
        { q with
          a := (q.a &&& d)
          p := { q.p with n := (q.a &&& d).getLsbD 7, z := decide ((q.a &&& d) = 0x00#8) } }) ∧
    (∀ r ∈
      [⟨.oraImm b, 0x09#8, .imm, 2⟩, ⟨.oraZp b, 0x05#8, .zp, 3⟩, ⟨.oraZpX b, 0x15#8, .zpX, 4⟩,
       ⟨.oraAbs w, 0x0D#8, .abs, 4⟩, ⟨.oraAbsX w, 0x1D#8, .absX, 4⟩,
       ⟨.oraAbsY w, 0x19#8, .absY, 4⟩, ⟨.oraIndX b, 0x01#8, .indX, 6⟩,
       ⟨.oraIndY b, 0x11#8, .indY, 5⟩],
      ReadResult s r fun q d =>
        { q with
          a := (q.a ||| d)
          p := { q.p with n := (q.a ||| d).getLsbD 7, z := decide ((q.a ||| d) = 0x00#8) } }) ∧
    (∀ r ∈
      [⟨.eorImm b, 0x49#8, .imm, 2⟩, ⟨.eorZp b, 0x45#8, .zp, 3⟩, ⟨.eorZpX b, 0x55#8, .zpX, 4⟩,
       ⟨.eorAbs w, 0x4D#8, .abs, 4⟩, ⟨.eorAbsX w, 0x5D#8, .absX, 4⟩,
       ⟨.eorAbsY w, 0x59#8, .absY, 4⟩, ⟨.eorIndX b, 0x41#8, .indX, 6⟩,
       ⟨.eorIndY b, 0x51#8, .indY, 5⟩],
      ReadResult s r fun q d =>
        { q with
          a := (q.a ^^^ d)
          p := { q.p with n := (q.a ^^^ d).getLsbD 7, z := decide ((q.a ^^^ d) = 0x00#8) } })

/-- CMP, CPX and CPY write C, Z and N from the comparison and nothing else but PC.  Formalises
R239, R240, R241, R242. -/
def Obligations.ComparesSetCarryZeroNegative : Prop :=
  ∀ (s : State) (b : Byte) (w : Word),
    (∀ r ∈
      [⟨.cmpImm b, 0xC9#8, .imm, 2⟩, ⟨.cmpZp b, 0xC5#8, .zp, 3⟩, ⟨.cmpZpX b, 0xD5#8, .zpX, 4⟩,
       ⟨.cmpAbs w, 0xCD#8, .abs, 4⟩, ⟨.cmpAbsX w, 0xDD#8, .absX, 4⟩,
       ⟨.cmpAbsY w, 0xD9#8, .absY, 4⟩, ⟨.cmpIndX b, 0xC1#8, .indX, 6⟩,
       ⟨.cmpIndY b, 0xD1#8, .indY, 5⟩],
      ReadResult s r fun q d =>
        { q with
          p := { q.p with
            c := decide (d.toNat ≤ q.a.toNat), z := decide (q.a = d), n := (q.a - d).getLsbD 7 } }) ∧
    (∀ r ∈
      [⟨.cpxImm b, 0xE0#8, .imm, 2⟩, ⟨.cpxZp b, 0xE4#8, .zp, 3⟩, ⟨.cpxAbs w, 0xEC#8, .abs, 4⟩],
      ReadResult s r fun q d =>
        { q with
          p := { q.p with
            c := decide (d.toNat ≤ q.x.toNat), z := decide (q.x = d), n := (q.x - d).getLsbD 7 } }) ∧
    (∀ r ∈
      [⟨.cpyImm b, 0xC0#8, .imm, 2⟩, ⟨.cpyZp b, 0xC4#8, .zp, 3⟩, ⟨.cpyAbs w, 0xCC#8, .abs, 4⟩],
      ReadResult s r fun q d =>
        { q with
          p := { q.p with
            c := decide (d.toNat ≤ q.y.toNat), z := decide (q.y = d), n := (q.y - d).getLsbD 7 } })

/-- BIT sets Z from A & data and N, V from bits 7 and 6 of the data; A is unchanged.  Formalises
R243. -/
def Obligations.BitTestsMemory : Prop :=
  ∀ (s : State) (b : Byte) (w : Word),
    (∀ r ∈
      [⟨.bitZp b, 0x24#8, .zp, 3⟩, ⟨.bitAbs w, 0x2C#8, .abs, 4⟩],
      ReadResult s r fun q d =>
        { q with
          p := { q.p with z := decide (q.a &&& d = 0x00#8), n := d.getLsbD 7, v := d.getLsbD 6 } })

/-- INC and DEC read, write the byte back, write it plus or minus one, and set N and Z.
Formalises R260, R261. -/
def Obligations.IncAndDecModifyMemory : Prop :=
  ∀ (s : State) (b : Byte) (w : Word),
    (∀ r ∈
      [⟨.incZp b, 0xE6#8, .zp, 5⟩, ⟨.incZpX b, 0xF6#8, .zpX, 6⟩, ⟨.incAbs w, 0xEE#8, .abs, 6⟩,
       ⟨.incAbsX w, 0xFE#8, .absX, 7⟩],
      RmwResult s r fun p d =>
        (d + 1, { p with n := (d + 1).getLsbD 7, z := decide ((d + 1) = 0x00#8) })) ∧
    (∀ r ∈
      [⟨.decZp b, 0xC6#8, .zp, 5⟩, ⟨.decZpX b, 0xD6#8, .zpX, 6⟩, ⟨.decAbs w, 0xCE#8, .abs, 6⟩,
       ⟨.decAbsX w, 0xDE#8, .absX, 7⟩],
      RmwResult s r fun p d =>
        (d - 1, { p with n := (d - 1).getLsbD 7, z := decide ((d - 1) = 0x00#8) }))

/-- INX, INY, DEX and DEY count X and Y modulo 256 and set N and Z.  Formalises R262, R263, R264,
R265. -/
def Obligations.IncAndDecModifyIndexRegisters : Prop :=
  ∀ s : State,
    ImpliedResult s .inx 0xE8#8 (fun q =>
        { q with
          x := (q.x + 1)
          p := { q.p with n := (q.x + 1).getLsbD 7, z := decide ((q.x + 1) = 0x00#8) } }) ∧
    ImpliedResult s .iny 0xC8#8 (fun q =>
        { q with
          y := (q.y + 1)
          p := { q.p with n := (q.y + 1).getLsbD 7, z := decide ((q.y + 1) = 0x00#8) } }) ∧
    ImpliedResult s .dex 0xCA#8 (fun q =>
        { q with
          x := (q.x - 1)
          p := { q.p with n := (q.x - 1).getLsbD 7, z := decide ((q.x - 1) = 0x00#8) } }) ∧
    ImpliedResult s .dey 0x88#8 (fun q =>
        { q with
          y := (q.y - 1)
          p := { q.p with n := (q.y - 1).getLsbD 7, z := decide ((q.y - 1) = 0x00#8) } })

/-- ASL and ROL shift memory or A left by one, bit 7 into C; ROL shifts the old C in.  Formalises
R266, R268. -/
def Obligations.AslAndRolShiftLeft : Prop :=
  ∀ (s : State) (b : Byte) (w : Word),
    (∀ r ∈
      [⟨.aslZp b, 0x06#8, .zp, 5⟩, ⟨.aslZpX b, 0x16#8, .zpX, 6⟩, ⟨.aslAbs w, 0x0E#8, .abs, 6⟩,
       ⟨.aslAbsX w, 0x1E#8, .absX, 7⟩],
      RmwResult s r fun p d =>
        (d <<< 1, { p with
          n := (d <<< 1).getLsbD 7, z := decide ((d <<< 1) = 0x00#8), c := d.getLsbD 7 })) ∧
    ImpliedResult s .aslA 0x0A#8 (fun q =>
        { q with
          a := q.a <<< 1
          p := { q.p with
            n := (q.a <<< 1).getLsbD 7, z := decide ((q.a <<< 1) = 0x00#8), c := q.a.getLsbD 7 } }) ∧
    (∀ r ∈
      [⟨.rolZp b, 0x26#8, .zp, 5⟩, ⟨.rolZpX b, 0x36#8, .zpX, 6⟩, ⟨.rolAbs w, 0x2E#8, .abs, 6⟩,
       ⟨.rolAbsX w, 0x3E#8, .absX, 7⟩],
      RmwResult s r fun p d =>
        let r := (d <<< 1) ||| (if p.c then 0x01#8 else 0x00#8)
        (r, { p with n := r.getLsbD 7, z := decide (r = 0x00#8), c := d.getLsbD 7 })) ∧
    ImpliedResult s .rolA 0x2A#8 (fun q =>
        let r := (q.a <<< 1) ||| (if q.p.c then 0x01#8 else 0x00#8)
        { q with
          a := r
          p := { q.p with
            n := r.getLsbD 7, z := decide (r = 0x00#8), c := q.a.getLsbD 7 } })

/-- LSR and ROR shift memory or A right by one, bit 0 into C; LSR clears N, ROR moves C into N.
Formalises R267, R269. -/
def Obligations.LsrAndRorShiftRight : Prop :=
  ∀ (s : State) (b : Byte) (w : Word),
    (∀ r ∈
      [⟨.lsrZp b, 0x46#8, .zp, 5⟩, ⟨.lsrZpX b, 0x56#8, .zpX, 6⟩, ⟨.lsrAbs w, 0x4E#8, .abs, 6⟩,
       ⟨.lsrAbsX w, 0x5E#8, .absX, 7⟩],
      RmwResult s r fun p d =>
        (d >>> 1, { p with n := false, z := decide (d >>> 1 = 0x00#8), c := d.getLsbD 0 })) ∧
    ImpliedResult s .lsrA 0x4A#8 (fun q =>
        { q with
          a := q.a >>> 1
          p := { q.p with
            n := false, z := decide (q.a >>> 1 = 0x00#8), c := q.a.getLsbD 0 } }) ∧
    (∀ r ∈
      [⟨.rorZp b, 0x66#8, .zp, 5⟩, ⟨.rorZpX b, 0x76#8, .zpX, 6⟩, ⟨.rorAbs w, 0x6E#8, .abs, 6⟩,
       ⟨.rorAbsX w, 0x7E#8, .absX, 7⟩],
      RmwResult s r fun p d =>
        let r := (d >>> 1) ||| (if p.c then 0x80#8 else 0x00#8)
        (r, { p with n := p.c, z := decide (r = 0x00#8), c := d.getLsbD 0 })) ∧
    ImpliedResult s .rorA 0x6A#8 (fun q =>
        let r := (q.a >>> 1) ||| (if q.p.c then 0x80#8 else 0x00#8)
        { q with
          a := r
          p := { q.p with
            n := q.p.c, z := decide (r = 0x00#8), c := q.a.getLsbD 0 } })

/-- Each branch goes to PCn + sext(off) if its flag condition holds, else to PCn, in 2, 3 or 4
cycles.  Formalises R291, R292, R293, R294, R295, R296, R297, R298. -/
def Obligations.BranchesFollowTheirCondition : Prop :=
  ∀ (s : State) (off : Byte),
    let p := s.cpu.regs.p
    BranchResult s (.bcc off) 0x90#8 off (!p.c) ∧
    BranchResult s (.bcs off) 0xB0#8 off (p.c) ∧
    BranchResult s (.beq off) 0xF0#8 off (p.z) ∧
    BranchResult s (.bne off) 0xD0#8 off (!p.z) ∧
    BranchResult s (.bmi off) 0x30#8 off (p.n) ∧
    BranchResult s (.bpl off) 0x10#8 off (!p.n) ∧
    BranchResult s (.bvc off) 0x50#8 off (!p.v) ∧
    BranchResult s (.bvs off) 0x70#8 off (p.v)

/-- JMP absolute loads PC; JMP indirect reads the target inside one page.  Formalises R299. -/
def Obligations.JmpGoesToItsTarget : Prop :=
  ∀ (s : State) (w : Word),
    let q := s.cpu.regs
    let v := s.reads [q.pc, q.pc + 1, q.pc + 2]
    let u := v.readCycle w
    let second := word (highByte w) (lowByte w + 1)
    (Instr.jmpAbs w).opcode = 0x4C#8 ∧ Completes (.jmpAbs w) s v { q with pc := w } ∧
    (Instr.jmpInd w).opcode = 0x6C#8 ∧
    Completes (.jmpInd w) s (u.readCycle second)
      { q with pc := word (u.readAt second) (v.readAt w) }

/-- JSR pushes the address of its last byte, jumps, and fetches the high target byte after the
pushes.  Formalises R300. -/
def Obligations.JsrPushesItsLastByteAddress : Prop :=
  ∀ s : State,
    let q := s.cpu.regs
    let v := s.reads [q.pc, q.pc + 1, stackAddr q.s]
    let u := (v.writeCycle (stackAddr q.s) (highByte (q.pc + 2))).writeCycle (stackAddr (q.s - 1))
      (lowByte (q.pc + 2))
    (∀ w : Word, (Instr.jsr w).opcode = 0x20#8 ∧
      Completes (.jsr w) s (u.readCycle (q.pc + 2)) { q with pc := w, s := q.s - 2 }) ∧
    (s.atInstr → s.readAt q.pc = 0x20#8 →
      step s =
        exec (.jsr (word (u.readAt (q.pc + 2)) ((s.readCycle q.pc).readAt (q.pc + 1)))) s)

/-- RTS pulls the return address, low byte first, and adds one.  Formalises R301. -/
def Obligations.RtsReturnsPastThePulledAddress : Prop :=
  ∀ s : State,
    let q := s.cpu.regs
    let v := s.reads [q.pc, q.pc + 1, stackAddr q.s]
    let u := v.readCycle (stackAddr (q.s + 1))
    let target := word (u.readAt (stackAddr (q.s + 2))) (v.readAt (stackAddr (q.s + 1)))
    Instr.rts.opcode = 0x60#8 ∧
    Completes .rts s ((u.readCycle (stackAddr (q.s + 2))).readCycle target)
      { q with pc := target + 1, s := q.s + 2 }

/-- RTI pulls the six flags and then PC, without adding one.  Formalises R302. -/
def Obligations.RtiRestoresStatusAndPc : Prop :=
  ∀ s : State,
    let q := s.cpu.regs
    let v := s.reads [q.pc, q.pc + 1, stackAddr q.s]
    let status := v.readAt (stackAddr (q.s + 1))
    let u := v.readCycle (stackAddr (q.s + 1))
    let x := u.readCycle (stackAddr (q.s + 2))
    Instr.rti.opcode = 0x40#8 ∧
    Completes .rti s (x.readCycle (stackAddr (q.s + 3)))
      { q with
        p := { n := status.getLsbD 7, v := status.getLsbD 6, d := status.getLsbD 3
               i := status.getLsbD 2, z := status.getLsbD 1, c := status.getLsbD 0 }
        s := q.s + 3
        pc := word (x.readAt (stackAddr (q.s + 3))) (u.readAt (stackAddr (q.s + 2))) }

/-- BRK pushes PC + 2 and the status with the break bit, sets I and loads PC from 0xFFFE.
Formalises R303, R601. -/
def Obligations.BrkTakesTheSoftwareInterrupt : Prop :=
  ∀ s : State,
    let q := s.cpu.regs
    let v := s.reads [q.pc, q.pc + 1]
    let u := ((v.writeCycle (stackAddr q.s) (highByte (q.pc + 2))).writeCycle (stackAddr (q.s - 1))
      (lowByte (q.pc + 2))).writeCycle (stackAddr (q.s - 2)) (q.p.pack true)
    let x := u.readCycle 0xFFFE#16
    Instr.brk.opcode = 0x00#8 ∧
    Completes .brk s (x.readCycle 0xFFFF#16)
      { q with
        pc := word (x.readAt 0xFFFF#16) (u.readAt 0xFFFE#16)
        s := q.s - 3
        p := { q.p with i := true } }

/-- PHA and PHP write at STK(S) and count S down; PLA and PLP count S up and read.  Formalises
R320, R321, R322, R323. -/
def Obligations.PushesAndPullsUseTheStackPage : Prop :=
  ∀ s : State,
    let q := s.cpu.regs
    let v := s.reads [q.pc, q.pc + 1]
    let u := v.readCycle (stackAddr q.s)
    let d := u.readAt (stackAddr (q.s + 1))
    (Instr.pha.opcode = 0x48#8 ∧ Completes .pha s (v.writeCycle (stackAddr q.s) q.a)
      { q with pc := q.pc + 1, s := q.s - 1 }) ∧
    (Instr.php.opcode = 0x08#8 ∧ Completes .php s (v.writeCycle (stackAddr q.s) (q.p.pack true))
      { q with pc := q.pc + 1, s := q.s - 1 }) ∧
    (Instr.pla.opcode = 0x68#8 ∧ Completes .pla s (u.readCycle (stackAddr (q.s + 1)))
      { q with
        pc := q.pc + 1, s := q.s + 1, a := d
        p := { q.p with n := d.getLsbD 7, z := decide (d = 0x00#8) } }) ∧
    (Instr.plp.opcode = 0x28#8 ∧ Completes .plp s (u.readCycle (stackAddr (q.s + 1)))
      { q with
        pc := q.pc + 1, s := q.s + 1
        p := { n := d.getLsbD 7, v := d.getLsbD 6, d := d.getLsbD 3
               i := d.getLsbD 2, z := d.getLsbD 1, c := d.getLsbD 0 } })

/-- CLC, CLD, CLI, CLV, SEC, SED, SEI write one flag each and NOP writes none.  Formalises R324,
R325, R326, R327, R328, R329, R330, R331. -/
def Obligations.FlagInstructionsWriteOneFlag : Prop :=
  ∀ s : State,
    ImpliedResult s .clc 0x18#8 (fun q => { q with p := { q.p with c := false } }) ∧
    ImpliedResult s .cld 0xD8#8 (fun q => { q with p := { q.p with d := false } }) ∧
    ImpliedResult s .cli 0x58#8 (fun q => { q with p := { q.p with i := false } }) ∧
    ImpliedResult s .clv 0xB8#8 (fun q => { q with p := { q.p with v := false } }) ∧
    ImpliedResult s .sec 0x38#8 (fun q => { q with p := { q.p with c := true } }) ∧
    ImpliedResult s .sed 0xF8#8 (fun q => { q with p := { q.p with d := true } }) ∧
    ImpliedResult s .sei 0x78#8 (fun q => { q with p := { q.p with i := true } }) ∧
    ImpliedResult s .nop 0xEA#8 (fun q => q)

/-- add_bin and sub_bin: result, carry and signed overflow as exact sums; sub_bin is add_bin of
the complement.  Formalises R230, R232. -/
def Obligations.BinaryArithmeticIsExact : Prop :=
  ∀ (a m : Byte) (c : Bool),
    let sum := a.toNat + m.toNat + c.toNat
    let signedSum := a.toInt + m.toInt + (c.toNat : Int)
    let diff := (a.toNat : Int) - m.toNat - (1 - c.toNat)
    let signedDiff := a.toInt - m.toInt - (1 - c.toNat)
    ((addBin a m c).r.toNat = sum % 256 ∧ (addBin a m c).c = decide (0xFF < sum) ∧
      (addBin a m c).v = decide (signedSum < -128 ∨ 127 < signedSum) ∧
      (addBin a m c).n = (addBin a m c).r.getLsbD 7 ∧
      (addBin a m c).z = decide ((addBin a m c).r = 0x00#8)) ∧
    (((subBin a m c).r.toNat : Int) = diff % 256 ∧ (subBin a m c).c = decide (0 ≤ diff) ∧
      (subBin a m c).v = decide (signedDiff < -128 ∨ 127 < signedDiff) ∧
      (subBin a m c).n = (subBin a m c).r.getLsbD 7 ∧
      (subBin a m c).z = decide ((subBin a m c).r = 0x00#8)) ∧
    subBin a m c = addBin a (m ^^^ 0xFF#8) c

/-- add_dec and sub_dec: the NMOS decimal results and flags for every byte pair, with the masks of
the spec.  Formalises R231, R233. -/
def Obligations.DecimalArithmeticFollowsItsTables : Prop :=
  ∀ (a m : Byte) (c : Bool),
    let lowSum := (a.toNat &&& 0x0F) + (m.toNat &&& 0x0F) + c.toNat
    let al := if 0x0A ≤ lowSum then ((lowSum + 0x06) &&& 0x0F) + 0x10 else lowSum
    let t := (a.toNat &&& 0xF0) + (m.toNat &&& 0xF0) + al
    let u := if 0xA0 ≤ t then t + 0x60 else t
    let lowDiff : Int := ((a.toNat &&& 0x0F : Nat) : Int) -
      ((m.toNat &&& 0x0F : Nat) : Int) + c.toNat - 1
    let bl : Int := if lowDiff < 0 then (lowDiff - 0x06) % 16 - 0x10 else lowDiff
    let d : Int := ((a.toNat &&& 0xF0 : Nat) : Int) - ((m.toNat &&& 0xF0 : Nat) : Int) + bl
    let e : Int := if d < 0 then d - 0x60 else d
    ((addDec a m c).r.toNat = u &&& 0xFF ∧ (addDec a m c).c = decide (0x100 ≤ u) ∧
      (addDec a m c).n = t.testBit 7 ∧
      (addDec a m c).v = ((a.getLsbD 7 == m.getLsbD 7) && (a.getLsbD 7 != t.testBit 7)) ∧
      (addDec a m c).z = decide (((a.toNat + m.toNat + c.toNat) &&& 0xFF) = 0)) ∧
    (((subDec a m c).r.toNat : Int) = e % 256 ∧
      (subDec a m c).c = (subBin a m c).c ∧ (subDec a m c).v = (subBin a m c).v ∧
      (subDec a m c).n = (subBin a m c).n ∧ (subDec a m c).z = (subBin a m c).z)

/-- On bytes of two decimal digits, add_dec and sub_dec are addition and subtraction modulo 100.
Derived from 43_arithmetic_logic.md section 1. -/
def Obligations.DecimalArithmeticIsCorrectOnDecimalDigits : Prop :=
  ∀ (a m : Byte) (c : Bool),
    let digits (b : Byte) : Prop := b.toNat / 16 < 10 ∧ b.toNat % 16 < 10
    let value (b : Byte) : Int := 10 * (b.toNat / 16 : Nat) + (b.toNat % 16 : Nat)
    digits a → digits m →
      (digits (addDec a m c).r ∧
        value (addDec a m c).r = (value a + value m + c.toNat) % 100 ∧
        (addDec a m c).c = decide (100 ≤ value a + value m + c.toNat)) ∧
      (digits (subDec a m c).r ∧
        value (subDec a m c).r = (value a - value m - (1 - c.toNat)) % 100 ∧
        (subDec a m c).c = decide (0 ≤ value a - value m - (1 - c.toNat)))

/-- pack puts each flag at its bit with bit 5 set; unpack takes the six flags and drops bits 5 and
4.  Formalises R35. -/
def Obligations.StatusBytePacksSixFlags : Prop :=
  (∀ (p : Flags) (b : Bool),
    (p.pack b).toNat = p.n.toNat * 128 + p.v.toNat * 64 + 32 + b.toNat * 16 + p.d.toNat * 8 +
      p.i.toNat * 4 + p.z.toNat * 2 + p.c.toNat ∧
    Flags.unpack (p.pack b) = p) ∧
  (∀ v : Byte, Flags.unpack v =
    { n := v.getLsbD 7, v := v.getLsbD 6, d := v.getLsbD 3, i := v.getLsbD 2, z := v.getLsbD 1
      c := v.getLsbD 0 })

/-- Decoding the encoding of any instruction gives it back, and encoding what was decoded gives
the bytes back.  Derived from 30_encoding.md section 1, 30_encoding.md section 2. -/
def Obligations.DecodeAndEncodeAgree : Prop :=
  (∀ (i : Instr) (rest : List Byte), decode (encode i ++ rest) = .ok (i, rest)) ∧
  (∀ (bytes rest : List Byte) (i : Instr), decode bytes = .ok (i, rest) → encode i ++ rest = bytes)

/-- The opcode byte alone fixes operation, mode and length; undocumented opcodes have length 1
under nop2.  Formalises R130. -/
def Obligations.OpcodeAloneSelectsTheInstruction : Prop :=
  (∀ i j : Instr, i.opcode = j.opcode →
    formOf i = formOf j ∧ (encode i).length = (encode j).length) ∧
  (∀ i : Instr, 1 ≤ (encode i).length ∧ (encode i).length ≤ 3) ∧
  (∀ s : State, s.atInstr → s.cfg.illegalPolicy = .nop2 → documented s.byteAtPc = false →
    ∃ t, step s = .next t ∧ t.cpu.regs.pc = s.cpu.regs.pc + 1)

/-- Words written out from the opcode matrix decode to the instructions they stand for.  Derived
from 30_encoding.md section 2. -/
def Obligations.WrittenWordsDecodeToTheirInstructions : Prop :=
  decode [0xA9#8, 0x80#8] = .ok (.ldaImm 0x80#8, []) ∧
  decode [0x8D#8, 0x00#8, 0x02#8] = .ok (.staAbs 0x0200#16, []) ∧
  decode [0xB6#8, 0xF0#8] = .ok (.ldxZpY 0xF0#8, []) ∧
  decode [0x71#8, 0x40#8] = .ok (.adcIndY 0x40#8, []) ∧
  decode [0xC1#8, 0x40#8] = .ok (.cmpIndX 0x40#8, []) ∧
  decode [0xFE#8, 0xFF#8, 0x12#8] = .ok (.incAbsX 0x12FF#16, []) ∧
  decode [0x0A#8, 0xEA#8] = .ok (.aslA, [0xEA#8]) ∧
  decode [0xF0#8, 0x7F#8] = .ok (.beq 0x7F#8, []) ∧
  decode [0x6C#8, 0xFF#8, 0x12#8] = .ok (.jmpInd 0x12FF#16, []) ∧
  decode [0x20#8, 0x45#8, 0x23#8] = .ok (.jsr 0x2345#16, []) ∧
  decode [0x08#8] = .ok (.php, []) ∧
  decode [0xF8#8] = .ok (.sed, []) ∧
  decode [0x02#8, 0x00#8, 0x00#8] = .error (.undocumentedOpcode 0x02#8)

/-- At an instruction boundary a step is the meaning of the instruction whose bytes are fetched.
Derived from 41_addressing_and_cycles.md section 1. -/
def Obligations.StepRunsTheDecodedInstruction : Prop :=
  ∀ (s : State) (i : Instr) (rest : List Byte),
    s.atInstr → decode s.fetchBytes = .ok (i, rest) → step s = exec i s

/-- If RAM or ROM at PC holds the encoding of an instruction, the step runs that instruction.
Derived from 20_memory.md section 5, 41_addressing_and_cycles.md section 1. -/
def Obligations.StepRunsTheInstructionStoredAtPc : Prop :=
  ∀ (s : State) (i : Instr),
    let q := s.cpu.regs
    Memory.wf s.mem = true → s.atInstr →
    (∀ (k : Nat) (h : k < (encode i).length),
      s.storable (q.pc + BitVec.ofNat 16 k) = true ∧
        s.cell (q.pc + BitVec.ofNat 16 k) = (encode i)[k]) →
    (formOf i = .jsr →
      busAddr (q.pc + 2) ≠ busAddr (stackAddr q.s) ∧
        busAddr (q.pc + 2) ≠ busAddr (stackAddr (q.s - 1))) →
    step s = exec i s

/-- A step never stops, and it is the single-cycle engine run to the next instruction boundary, at
most 7 cycles.  Derived from 41_addressing_and_cycles.md section 1, 60_exceptions.md section
2. -/
def Obligations.StepIsTheCycleEngineToTheNextBoundary : Prop :=
  (∀ s : State, ∃ t, step s = .next t) ∧
  (∀ s : State, s.cpu.fault = none → step s = .next s.toBoundary) ∧
  (∀ s : State, s.cpu.fault = none → (s.cpu.micro.cyc = 0 ∨ s.cpu.micro.cyc < s.seqRows.length) →
    s.toBoundary.cpu.micro.cyc = 0 ∧ ∃ n, 1 ≤ n ∧ n ≤ 7 ∧ s.toBoundary = State.cycles n s)

/-- Every step keeps the machine invariant.  Derived from 10_state.md section 2, 10_state.md
section 4, 20_memory.md section 2. -/
def Obligations.EveryStepKeepsTheInvariant : Prop :=
  ∀ s t : State, s.Inv → step s = .next t → t.Inv

/-- Every operation of the host keeps the machine invariant and the configuration.  Derived from
58_machine.md section 4. -/
def Obligations.EveryHostOperationKeepsTheInvariant : Prop :=
  ∀ (s : State) (op : HostOp), s.Inv → (s.hostStep op).Inv ∧ sameConfig s (s.hostStep op)

/-- State.reset meets the invariant; S, I, PC, VIC, PIA, signal and pause flag as the spec gives
them, with the model's parameters and blank ROM.  Derived from 10_state.md section 1,
70_reset_and_hazards.md section 1.  That memory lists nothing says by the spec that RAM and
nibble RAM are 0, but that every ROM byte is 0 is the model's choice (log entry 2). The values
of A, X, Y and the other flags are the model's choice (log entry 1) and are not stated; the
parameters are those of log entry 3 and the profile that of log entry 4. -/
def Obligations.ResetStateMeetsTheInvariant : Prop :=
  State.reset.Inv ∧
  State.reset.cpu.regs.s = 0xFD#8 ∧ State.reset.cpu.regs.p.i = true ∧
  State.reset.cpu.regs.pc = State.reset.resetVector ∧
  State.reset.atInstr ∧ State.reset.mem = [] ∧
  State.reset.vic.startsWith (Vector.replicate 16 0x00#8) ∧
  State.reset.pia.portA = ⟨0#8, 0#8, 0#8, 0#8, 0#2, 0#3, false⟩ ∧
  State.reset.pia.portB = State.reset.pia.portA ∧
  State.reset.sig = 0x00#8 ∧ State.reset.paused = false

/-- A machine that starts meets the invariant, holds its ROM images and the reset values.  Derived
from 58_machine.md section 3, 20_memory.md section 3, 70_reset_and_hazards.md section 1. -/
def Obligations.StartedMachineMeetsTheInvariant : Prop :=
  ∀ (c : Config) (p : Profile) (images : List (List Byte)) (preloads : List (Nat × List Byte))
    (on : PowerOn) (s : State),
    startMachine c p images preloads on = .next s →
      s.Inv ∧ s.cfg = c ∧ s.profile = p ∧ s.cpu.fault = none ∧ s.cpu.micro.cyc = 0 ∧
      s.vic.startsWith c.vicRegInit ∧
      s.pia.portA = ⟨0#8, 0#8, 0#8, 0#8, 0#2, 0#3, false⟩ ∧ s.pia.portB = s.pia.portA ∧
      s.sig = 0x00#8 ∧ s.paused = false ∧
      (∀ a : Word, (s.chipAt a).1 = .ram ∨ (s.chipAt a).1 = .nibbleRam →
        (∀ q ∈ preloads, busAddr a < q.1 ∨ q.1 + q.2.length ≤ busAddr a) → s.cell a = 0x00#8) ∧
      (∀ k n : Nat, k < 8 → n < 1024 →
        s.cell (BitVec.ofNat 16 (0x2000 + k * 0x400 + n)) = (images.getD k []).getD n 0x00#8) ∧
      (c.resetCycles = .none →
        s.atInstr ∧ s.cpu.regs = { on.regs with
          pc := s.resetVector
          s := c.resetSp
          p := { on.regs.p with i := true } }) ∧
      (c.resetCycles = .seven → s.cpu.micro.seq = .reset)

/-- Initialisation refuses a missing or wrongly sized image, a wrong pre-load, a map with overlap
or gap, a bad profile.  Formalises R521. -/
def Obligations.BadConfigurationsAreRefused : Prop :=
  (∀ (c : Config) (p : Profile) (images : List (List Byte)) (preloads : List (Nat × List Byte))
    (on : PowerOn),
    (images.length ≠ 8 ∨ (∃ m ∈ images, m.length ≠ 1024) ∨
      (∃ q ∈ preloads, ∀ r ∈ c.busMap, r.base = q.1 → r.size ≠ q.2.length) ∨
      (∃ (i j : Nat) (hi : i < c.busMap.length) (hj : j < c.busMap.length) (a : Nat), i ≠ j ∧
        c.busMap[i].base ≤ a ∧ a < c.busMap[i].base + c.busMap[i].size ∧
        c.busMap[j].base ≤ a ∧ a < c.busMap[j].base + c.busMap[j].size) ∨
      (∃ a, a < 0x4000 ∧ ∀ r ∈ c.busMap, a < r.base ∨ r.base + r.size ≤ a) ∨
      (p.width % 4 ≠ 0 ∨ p.width < 8 ∨ p.height = 0 ∨ p.height < p.vblank)) →
    ∃ r, startMachine c p images preloads on = .refused r) ∧
  (∀ s : State, ∃ t, step s = .next t)

/-- reset() clears the fault, restarts the CPU and the PIA, and leaves everything else.  Derived
from 58_machine.md section 3, 70_reset_and_hazards.md section 1.  That with 7 the registers,
PC among them, keep their values until the sequence writes them is the model's choice (log
entry 15); the rest is the rule of reset() in 58_machine.md section 3. -/
def Obligations.LifecycleResetRestartsCpuAndPia : Prop :=
  ∀ s : State,
    let t := s.lifecycleReset
    let zero : Port := ⟨0#8, 0#8, 0#8, 0#8, 0#2, 0#3, false⟩
    t.cpu.fault = none ∧ t.cpu.micro.cyc = 0 ∧ t.pia = ⟨zero, zero⟩ ∧
    t.mem = s.mem ∧ t.vic = s.vic ∧ t.sig = s.sig ∧ t.paused = s.paused ∧ t.profile = s.profile ∧
    t.cfg = s.cfg ∧
    (s.cfg.resetCycles = .none →
      t.cpu.micro.seq = .instr ∧
      t.cpu.regs = { s.cpu.regs with
        pc := word (s.readByte 0xFFFD#16) (s.readByte 0xFFFC#16)
        s := s.cfg.resetSp
        p := { s.cpu.regs.p with i := true } }) ∧
    (s.cfg.resetCycles = .seven → t.cpu.micro.seq = .reset ∧ t.cpu.regs = s.cpu.regs)

/-- With RESET_CYCLES = 7 the next step is the seven reads of the reset sequence, loading PC, S
and I.  Derived from 70_reset_and_hazards.md section 1. -/
def Obligations.ResetSequenceTakesSevenCycles : Prop :=
  ∀ s : State, s.cpu.fault = none → s.cpu.micro.cyc = 0 → s.cpu.micro.seq = .reset →
    let q := s.cpu.regs
    let sp := s.cfg.resetSp
    let v := s.reads [q.pc, q.pc, stackAddr (sp + 3), stackAddr (sp + 2), stackAddr (sp + 1)]
    let u := v.readCycle 0xFFFC#16
    ∃ t, step s = .next t ∧ t = (u.readCycle 0xFFFD#16).withCpu t.cpu ∧
      t.cpu.regs = { q with
        pc := word (u.readAt 0xFFFD#16) (v.readAt 0xFFFC#16)
        s := sp
        p := { q.p with i := true } } ∧
      t.cpu.micro.cyc = 0 ∧ t.cpu.micro.seq = .instr ∧ t.cpu.fault = none

/-- At a boundary a pending NMI, else an unmasked IRQ, is taken with the seven-cycle sequence.
Formalises R604, R606. -/
def Obligations.InterruptsAreTakenAtBoundaries : Prop :=
  ∀ (s : State), s.cpu.fault = none → s.cpu.micro.cyc = 0 → s.cpu.micro.seq ≠ .reset →
    let q := s.cpu.regs
    let taken (vector : Word) (pending : Bool) : Prop :=
      let v := s.reads [q.pc, q.pc]
      let u := ((v.writeCycle (stackAddr q.s) (highByte q.pc)).writeCycle (stackAddr (q.s - 1))
        (lowByte q.pc)).writeCycle (stackAddr (q.s - 2)) (q.p.pack false)
      let x := u.readCycle vector
      ∃ t, step s = .next t ∧ t = (x.readCycle (vector + 1)).withCpu t.cpu ∧
        t.cpu.regs = { q with
          pc := word (x.readAt (vector + 1)) (u.readAt vector)
          s := q.s - 3
          p := { q.p with i := true } } ∧
        t.cpu.micro.cyc = 0 ∧ t.cpu.micro.seq = .instr ∧ t.cpu.fault = none ∧
        t.cpu.nmiPending = pending ∧ t.cpu.irqLine = s.cpu.irqLine
    (s.cpu.nmiPending = true → taken 0xFFFA#16 false) ∧
    (s.cpu.nmiPending = false → s.cpu.irqLine = true → q.p.i = false → taken 0xFFFE#16 false) ∧
    (s.cpu.nmiPending = false → (s.cpu.irqLine = false ∨ q.p.i = true) → s.atInstr)

/-- Inactive interrupt lines stay inactive in every cycle, step and host operation, and no
interrupt is accepted.  Formalises R603. -/
def Obligations.NoInterruptOccursInThisMachine : Prop :=
  ∀ s : State,
    let quiet (u : State) : Prop :=
      u.cpu.nmiLine = false ∧ u.cpu.irqLine = false ∧ u.cpu.nmiPending = false
    quiet s →
      (∀ k, s.cpu.nextSeq ≠ .interrupt k) ∧ quiet s.machineCycle ∧
      (∀ t, step s = .next t → quiet t) ∧ (∀ op, quiet (s.hostStep op))

/-- RTI as the handler of an interrupt restores every register; as the handler of BRK it returns
to BRK + 2.  Formalises R609. -/
def Obligations.RtiReturnsFromTheEvent : Prop :=
  ∀ (s : State) (k : IntKind),
    let sp := s.cpu.regs.s
    Memory.wf s.mem = true →
    (s.chipAt (stackAddr sp)).1 = .ram → (s.chipAt (stackAddr (sp - 1))).1 = .ram →
    (s.chipAt (stackAddr (sp - 2))).1 = .ram →
      (∃ u, exec .rti (s.takeInterrupt k) = .next u ∧ u.cpu.regs = s.cpu.regs) ∧
      (∃ t u, exec .brk s = .next t ∧ exec .rti t = .next u ∧
        u.cpu.regs = { s.cpu.regs with pc := s.cpu.regs.pc + 2 })

/-- The 105 undocumented opcodes record the fault after c1, or under nop2 run as a two-cycle no-
operation.  Derived from 30_encoding.md section 3, 60_exceptions.md section 2.  That a CPU
stopped by the fault counts as at a boundary (cycle count 0) is the model's choice (log entry
12). -/
def Obligations.UndocumentedOpcodesFollowThePolicy : Prop :=
  undocumentedOpcodes.length = 105 ∧
  (∀ b : Byte, b ∈ undocumentedOpcodes ↔ documented b = false) ∧
  (∀ s : State, s.atInstr → s.byteAtPc ∈ undocumentedOpcodes →
    let q := s.cpu.regs
    ∃ t, step s = .next t ∧ t.cpu.micro.cyc = 0 ∧ t.cpu.regs = { q with pc := q.pc + 1 } ∧
      (s.cfg.illegalPolicy = .fault →
        t = (s.readCycle q.pc).withCpu t.cpu ∧
          t.cpu.fault = some (.illegalOpcode q.pc s.byteAtPc) ∧
          ∀ u, step t = .next u → u.cpu = t.cpu) ∧
      (s.cfg.illegalPolicy = .nop2 →
        t = (s.reads [q.pc, q.pc + 1]).withCpu t.cpu ∧ t.cpu.fault = none))

/-- A faulted CPU changes nothing for any number of cycles, while the VIC steps in each of them.
Derived from 58_machine.md section 1, 60_exceptions.md section 2.  That a step of a stopped
CPU is one cycle is the model's choice (log entry 8). -/
def Obligations.StoppedCpuStaysWhileTheVicGoesOn : Prop :=
  ∀ s : State, s.cpu.fault.isSome = true →
    step s = .next s.machineCycle ∧ s.machineCycle = s.vicStep ∧ s.cpuAccess = none ∧
    (∀ n, (State.cycles n s).cpu = s.cpu ∧ (State.cycles n s).mem = s.mem ∧
      (State.cycles n s).pia = s.pia) ∧
    (s.profile.valid = true → s.vic.h % 4 = 0 → s.vic.h < s.profile.width →
      s.vic.v < s.profile.height →
      ∃ n, n < cyclesPerFrame s.profile ∧ (State.cycles n s).completesFrame = true)

/-- Outside the addresses its form stores to, an instruction leaves memory, PIA and VIC registers
unchanged.  Derived from 20_memory.md section 2, 41_addressing_and_cycles.md section 1. -/
def Obligations.InstructionsChangeOnlyTheBytesTheyStore : Prop :=
  ∀ (i : Instr) (s t : State), Memory.wf s.mem = true → exec i s = .next t →
    (∀ a : Word, (∀ w ∈ s.storedAt i, busAddr w ≠ busAddr a) → t.cell a = s.cell a) ∧
    ((∀ w ∈ s.storedAt i, (s.chipAt w).1 ≠ .pia) → t.pia = s.pia) ∧
    ((∀ w ∈ s.storedAt i, (s.chipAt w).1 ≠ .vic) →
      (∀ (k : Nat) (h : k < 16), k ≠ 3 → k ≠ 4 → t.vic.reg[k] = s.vic.reg[k]) ∧
        t.vic.reg[3] &&& 0x7F#8 = s.vic.reg[3] &&& 0x7F#8) ∧
    sameConfig s t ∧ t.sig = s.sig ∧ t.paused = s.paused ∧ t.skipRender = s.skipRender

/-- The bus address is the CPU address modulo 0x4000, so the four mirrors read and write alike.
Formalises R71. -/
def Obligations.AddressesMirrorModulo14Bits : Prop :=
  ∀ (s : State) (a : Word) (v : Byte),
    busAddr a = a.toNat % 0x4000 ∧
    ∀ m ∈ [0x4000#16, 0x8000#16, 0xC000#16],
      s.readByte (a + m) = s.readByte a ∧ s.writeByte (a + m) v = s.writeByte a v ∧
        s.afterRead (a + m) = s.afterRead a

/-- A RAM cell reads back the byte written, a write changes no other byte, and cells start at 0
unless pre-loaded.  Formalises R76. -/
def Obligations.RamReadsBackWhatWasWritten : Prop :=
  (∀ (s : State) (a : Word) (v : Byte), Memory.wf s.mem = true → (s.chipAt a).1 = .ram →
    s.afterRead a = s ∧
    ∀ b : Word, (s.writeByte a v).readByte b = if busAddr b = busAddr a then v else s.readByte b) ∧
  (∀ (s : State) (a : Word), (s.chipAt a).1 = .ram → (∀ p ∈ s.mem, p.1 ≠ busAddr a) →
    s.readByte a = 0x00#8) ∧
  (∀ (c : Config) (p : Profile) (images : List (List Byte)) (preloads : List (Nat × List Byte))
    (on : PowerOn) (s : State) (a : Word),
    startMachine c p images preloads on = .next s → (s.chipAt a).1 = .ram →
    (∀ q ∈ preloads, busAddr a < q.1 ∨ q.1 + q.2.length ≤ busAddr a) → s.readByte a = 0x00#8)

/-- A nibble-RAM cell keeps the low four bits; the upper four read 0 or, under draw, a free value.
Derived from 20_memory.md section 2.  That the n-th draw is an opaque constant applied to a
counter is the model's choice (log entry 9); nothing is known of its value. -/
def Obligations.NibbleRamKeepsFourBits : Prop :=
  ∀ (s : State) (a : Word) (v : Byte), Memory.wf s.mem = true → (s.chipAt a).1 = .nibbleRam →
    let t := s.writeByte a v
    (∀ b : Word, busAddr b = busAddr a →
      t.readByte b &&& 0x0F#8 = v &&& 0x0F#8 ∧
      (s.cfg.nibbleUpper = .zero → t.readByte b = v &&& 0x0F#8 ∧ t.afterRead b = t) ∧
      (s.cfg.nibbleUpper = .draw →
        t.readByte b = Config.drawnNibble s.draws ++ v.extractLsb' 0 4 ∧
          (t.afterRead b).draws = s.draws + 1)) ∧
    (∀ b : Word, busAddr b ≠ busAddr a → t.readByte b = s.readByte b)

/-- A write to ROM or unconnected space changes nothing; ROM bytes never change; unconnected reads
are free.  Derived from 20_memory.md section 2.  That the n-th draw is an opaque constant
applied to a counter is the model's choice (log entry 9). -/
def Obligations.RomAndUnconnectedIgnoreWrites : Prop :=
  ∀ (s : State) (a : Word),
    ((s.chipAt a).1 = .rom →
      (∀ v, s.writeByte a v = s) ∧ s.readByte a = s.cell a ∧ s.afterRead a = s ∧
      (Memory.wf s.mem = true →
        s.machineCycle.readByte a = s.readByte a ∧
        (∀ t, step s = .next t → t.readByte a = s.readByte a) ∧
        (∀ op, (s.hostStep op).readByte a = s.readByte a))) ∧
    ((s.chipAt a).1 = .unconnected →
      (∀ v, s.writeByte a v = s) ∧ s.readByte a = Config.openBus s.draws ∧
        s.afterRead a = { s with draws := s.draws + 1 })

/-- A VIC register reads back the byte stored, a write recomputes the derived fields, offsets past
15 do nothing.  Formalises R418, R419. -/
def Obligations.VicRegistersReadBackAndRecompute : Prop :=
  ∀ (s : State) (a : Word) (o : Nat) (v : Byte), s.chipAt a = (.vic, o) →
    s.afterRead a = s ∧
    (∀ h : o < 16,
      s.readByte a = s.vic.reg[o] ∧
      s.writeByte a v = { s with vic := { s.vic with
        reg := s.vic.reg.set o v, derived := derive s.cfg (s.vic.reg.set o v)
        mc := multicolour (derive s.cfg (s.vic.reg.set o v)) s.vic.cellColour } }) ∧
    (16 ≤ o → s.readByte a = s.vic.lastFetch ∧ s.writeByte a v = s)

/-- The derived fields are the arithmetic of R417 on the register bytes, and the multicolour table
is theirs and the cell colour.  Formalises R417. -/
def Obligations.DerivedFieldsAreThoseOfTheRegisters : Prop :=
  ∀ (c : Config) (reg : Vector Byte 16),
    let d := derive c reg
    let r (n : Fin 16) : Nat := (reg.get n).toNat
    d.columns = r 2 % 128 ∧ d.rows = r 3 / 2 % 64 ∧
    (d.charSize, d.charShift) = (if r 3 % 2 = 1 then (16, 4) else (8, 3)) ∧
    d.screenLeft = r 0 % 128 * 4 ∧ d.screenTop = r 1 * 2 ∧
    d.screenRight = d.screenLeft + d.columns * 8 ∧
    d.screenBottom = d.screenTop + d.rows * d.charSize ∧
    (∀ n : Fin 16, n.val = r 5 / 16 →
      d.videoStart.toNat = ((c.videoBase.get n).toNat + r 2 / 128 * 0x200) % 0x4000) ∧
    d.colourStart.toNat = (c.colourBase.toNat + r 2 / 128 * 0x200) % 0x4000 ∧
    (∀ n : Fin 16, n.val = r 5 % 16 → d.charStart.toNat = (c.charBase.get n).toNat % 0x4000) ∧
    d.backgroundColour.toNat = r 15 / 16 ∧ d.borderColour.toNat = r 15 % 8 ∧
    d.auxColour.toNat = r 14 / 16 ∧
    ∀ cell : BitVec 4,
      let mc := multicolour d cell
      mc[0].toNat = r 15 / 16 ∧ mc[1].toNat = r 15 % 8 ∧ mc[2] = cell ∧ mc[3].toNat = r 14 / 16

/-- From h = 0, v = 0 a frame completes in exactly the last of (W / 4) * H cycles; the skip path
keeps the frames.  Derived from 50_vic.md section 2, 50_vic.md section 3. -/
def Obligations.FrameTakesItsCyclesOnBothPaths : Prop :=
  ∀ s : State, s.profile.valid = true → s.vic.h = 0 → s.vic.v = 0 →
    (∀ n, n < cyclesPerFrame s.profile →
      (State.cycles n s).completesFrame = decide (n + 1 = cyclesPerFrame s.profile)) ∧
    (let t := State.cycles (cyclesPerFrame s.profile) s; t.vic.h = 0 ∧ t.vic.v = 0) ∧
    (s.skipRender = true → ∀ n,
      (State.cycles n s).vic.frame0.pixels = s.vic.frame0.pixels ∧
        (State.cycles n s).vic.frame1.pixels = s.vic.frame1.pixels)

/-- runUntilFrame runs machine cycles up to and including the first that completes a frame.
Derived from 58_machine.md section 1, 50_vic.md section 2. -/
def Obligations.RunUntilFrameStopsAtTheFirstFrame : Prop :=
  ∀ (s : State) (skip : Bool), s.profile.valid = true → s.vic.h % 4 = 0 →
    s.vic.h < s.profile.width → s.vic.v < s.profile.height →
    ∃ n, n < cyclesPerFrame s.profile ∧
      s.runUntilFrame skip = State.cycles (n + 1) (s.setSkip skip) ∧
      (State.cycles n (s.setSkip skip)).completesFrame = true ∧
      (∀ m, m < n → (State.cycles m (s.setSkip skip)).completesFrame = false) ∧
      (s.vic.h = 0 → s.vic.v = 0 → n + 1 = cyclesPerFrame s.profile) ∧
      (skip = true →
        (s.runUntilFrame skip).vic.frame0.ready = s.vic.frame0.ready ∧
          (s.runUntilFrame skip).vic.frame1.ready = s.vic.frame1.ready ∧
          (s.runUntilFrame skip).vic.active = s.vic.active)

/-- On both paths h advances by 4, a line end counts v and mirrors v + 1 into registers 4 and 3.
Formalises R423. -/
def Obligations.RasterCountersAdvanceAndMirror : Prop :=
  ∀ s : State,
    let p := s.profile
    let w := s.vicStep.vic
    let x := s.vic.v + 1
    w.derived = s.vic.derived ∧
    s.completesFrame = decide (p.width ≤ s.vic.h + 4 ∧ p.height ≤ x) ∧
    (s.vic.h + 4 < p.width → w.h = s.vic.h + 4 ∧ w.v = s.vic.v ∧ w.reg = s.vic.reg) ∧
    (p.width ≤ s.vic.h + 4 →
      w.h = 0 ∧ w.v = (if p.height ≤ x then 0 else x) ∧
      w.reg[4].toNat = x / 2 % 256 ∧ w.reg[3].toNat = s.vic.reg[3].toNat % 128 + x % 2 * 128 ∧
      ∀ (k : Nat) (h : k < 16), k ≠ 3 → k ≠ 4 → w.reg[k] = s.vic.reg[k])

/-- The skip path performs only the horizontal and vertical advance and the raster mirror.
Formalises R433. -/
def Obligations.SkipPathMovesOnlyTheTimingCounters : Prop :=
  ∀ s : State, s.skipRender = true →
    let t := s.vicStep
    let r := (s.setSkip false).vicStep
    t = { s with vic := { s.vic with h := r.vic.h, v := r.vic.v, reg := r.vic.reg } }

/-- At a render-path line end inside the window the cell depth, row start and matrix counter
advance as R425 says.  Formalises R425. -/
def Obligations.LineEndsAdvanceTheMatrixRow : Prop :=
  ∀ s : State, s.skipRender = false → s.profile.width ≤ s.vic.h + 4 →
    s.vic.v + 1 < s.profile.height →
    let d := s.vic.derived
    let w := s.vicStep.vic
    w.fetchToggle = .screenCode ∧
    (if s.cfg.rowAdvance = .everyLine ∨ (d.screenTop ≤ s.vic.v ∧ s.vic.v < d.screenBottom) then
      if d.charSize ≤ s.vic.cellDepth + 1 then
        w.cellDepth = 0 ∧ w.rowStart = s.vic.rowStart + BitVec.ofNat 16 d.columns ∧
          w.matrixCounter = w.rowStart
      else
        w.cellDepth = s.vic.cellDepth + 1 ∧ w.rowStart = s.vic.rowStart ∧
          w.matrixCounter = s.vic.rowStart
    else
      w.cellDepth = s.vic.cellDepth ∧ w.rowStart = s.vic.rowStart ∧
        w.matrixCounter = s.vic.matrixCounter)

/-- At a render-path frame end the active frame becomes ready, the other becomes active, the
counters and the fetch toggle reset.  Formalises R424. -/
def Obligations.FrameEndHandsTheFrameOver : Prop :=
  ∀ s : State, s.skipRender = false → s.completesFrame = true →
    let k := s.vic.active
    let w := s.vicStep.vic
    w.active = k.other ∧ (w.frame k).ready = true ∧ (w.frame k.other).ready = false ∧
    (w.frame k.other).pixels = (s.vic.frame k.other).pixels ∧
    w.matrixCounter = 0x0000#16 ∧ w.rowStart = 0x0000#16 ∧ w.cellDepth = 0 ∧ w.pixelCursor = 0 ∧
    w.fetchToggle = .screenCode

/-- Screen-code, character-data and border cycles fetch, emit pixels and move the cursor as R427
to R432 say.  Formalises R427, R428, R429, R430, R431, R432. -/
def Obligations.RenderedCyclesFetchAndEmit : Prop :=
  ∀ s : State, Cells.wf (s.vic.frame s.vic.active).pixels = true →
    let p := s.profile
    let d := s.vic.derived
    let w := s.vicRendered
    let inside : Prop := d.screenLeft ≤ s.vic.h ∧ s.vic.h < d.screenRight ∧
      d.screenTop ≤ s.vic.v ∧ s.vic.v < d.screenBottom
    let emitted (n : Nat) (colour : Nat → BitVec 4) : Prop :=
      w.pixelCursor = s.vic.pixelCursor + n ∧ w.active = s.vic.active ∧
      w.frame s.vic.active.other = s.vic.frame s.vic.active.other ∧
      (w.frame s.vic.active).ready = (s.vic.frame s.vic.active).ready ∧
      ∀ j, (w.frame s.vic.active).pixels.get j =
        if s.vic.pixelCursor ≤ j ∧ j < s.vic.pixelCursor + n ∧ j < p.width * p.height then
          colour (j - s.vic.pixelCursor)
        else (s.vic.frame s.vic.active).pixels.get j
    let counters : Prop := w.rowStart = s.vic.rowStart ∧ w.cellDepth = s.vic.cellDepth ∧
      w.h = s.vic.h ∧ w.v = s.vic.v ∧ w.reg = s.vic.reg ∧ w.derived = s.vic.derived
    counters ∧
    (s.vic.v < p.vblank → w = s.vic ∧ s.vicFetches = []) ∧
    (p.vblank ≤ s.vic.v → inside → s.vic.fetchToggle = .screenCode →
      let a := d.videoStart + s.vic.matrixCounter
      let b := d.colourStart + s.vic.matrixCounter
      s.vicFetches = [a, b] ∧ w.cellCode = s.readByte a ∧
        w.cellColour = ((s.afterRead a).readByte b).extractLsb' 0 4 ∧ w.lastFetch = s.readByte a ∧
        w.matrixCounter = s.vic.matrixCounter + 1 ∧ w.fetchToggle = .charData ∧
        emitted 0 fun _ => 0#4) ∧
    (p.vblank ≤ s.vic.v → inside → s.vic.fetchToggle = .charData →
      let a := d.charStart + (s.vic.cellCode.setWidth 16 <<< d.charShift) +
        BitVec.ofNat 16 s.vic.cellDepth
      let b := s.readByte a
      s.vicFetches = [a] ∧ w.lastFetch = b ∧ w.fetchToggle = .screenCode ∧
        w.matrixCounter = s.vic.matrixCounter ∧
        emitted (if s.vic.h + 4 < p.width then 8 else 4) fun k =>
          if b.getLsbD (7 - k) then s.vic.cellColour else d.backgroundColour) ∧
    (p.vblank ≤ s.vic.v → ¬ inside →
      s.vicFetches = [s.cfg.borderFetch] ∧ w.lastFetch = s.readByte s.cfg.borderFetch ∧
        w.fetchToggle = s.vic.fetchToggle ∧ w.matrixCounter = s.vic.matrixCounter ∧
        emitted 4 fun _ => d.borderColour) ∧
    (s.skipRender = false →
      let t := s.vicStep
      t = { s.vicFetches.foldl State.afterRead s with vic := w.advance s.cfg p true } ∧
      (∀ k, (t.vic.frame k).pixels = (w.frame k).pixels) ∧
      t.vic.cellCode = w.cellCode ∧ t.vic.cellColour = w.cellColour ∧
      t.vic.lastFetch = w.lastFetch ∧
      (s.vic.h + 4 < p.width → t.vic = { w with h := s.vic.h + 4 }))

/-- getReadyFrame gives the palette colours of the frame not being written, once, and clears only
its ready bit.  Formalises R511. -/
def Obligations.ReadyFrameIsTakenOnce : Prop :=
  ∀ s : State,
    let k := s.vic.active.other
    let f := s.vic.frame k
    let n := s.profile.width * s.profile.height
    (f.ready = false → s.getReadyFrame = (none, s)) ∧
    (f.ready = true →
      (∃ l, s.getReadyFrame.1 = some l ∧ l.length = n ∧
        ∀ i, i < n → l[i]? = some (s.cfg.palette.get (f.pixels.get i).toFin)) ∧
      (let t := s.getReadyFrame.2
       (t.vic.frame k).ready = false ∧ (t.vic.frame k).pixels = f.pixels ∧
       t.vic.frame s.vic.active = s.vic.frame s.vic.active ∧
       t = { s with vic := { s.vic with frame0 := t.vic.frame0, frame1 := t.vic.frame1 } } ∧
       t.getReadyFrame = (none, t)))

/-- PIA reads and writes reach the port, direction or control register that offset and access mode
select.  Formalises R473, R474, R475, R477, R478. -/
def Obligations.PiaRegistersFollowTheirAccessMode : Prop :=
  ∀ (s : State) (a : Word) (o : Nat) (v : Byte), s.chipAt a = (.pia, o) →
    let pins (q : Port) : Port := { q with pins := (q.pins &&& ~~~q.ddr) ||| (q.out &&& q.ddr) }
    let control (q : Port) : Nat := q.c2.toNat * 8 + q.acc.toNat * 4 + q.c1.toNat
    let putControl (q : Port) : Port :=
      pins { q with c1 := v.extractLsb' 0 2, acc := v.getLsbD 2, c2 := v.extractLsb' 3 3 }
    let putPrimary (q : Port) : Port :=
      pins (if q.acc then { q with out := v } else { q with ddr := v })
    let extPortA : Nat := s.cfg.dipSwitches.toNat + (if s.sig.getLsbD 7 then 0 else 0x80)
    let t := s.writeByte a v
    s.afterRead a = s ∧ t.mem = s.mem ∧ t.vic = s.vic ∧
    (o % 4 = 0 → s.readByte a = (if s.pia.portA.acc then
        BitVec.ofNat 8 extPortA &&& ~~~s.pia.portA.ddr else s.pia.portA.ddr) ∧
      t.pia = { s.pia with portA := putPrimary s.pia.portA }) ∧
    (o % 4 = 1 → (s.readByte a).toNat = control s.pia.portA ∧
      t.pia = { s.pia with portA := putControl s.pia.portA } ∧ t.readByte a = v &&& 0x3F#8) ∧
    (o % 4 = 2 → s.readByte a = (if s.pia.portB.acc then
        (s.sig &&& 0x7F#8) &&& ~~~s.pia.portB.ddr else s.pia.portB.ddr) ∧
      t.pia = { s.pia with portB := putPrimary s.pia.portB }) ∧
    (o % 4 = 3 → (s.readByte a).toNat = control s.pia.portB ∧
      t.pia = { s.pia with portB := putControl s.pia.portB } ∧ t.readByte a = v &&& 0x3F#8)

/-- Pressing sets exactly the button's bit of the joystick signal and releasing clears exactly it.
Formalises R480. -/
def Obligations.ButtonsSetAndClearTheirBit : Prop :=
  ∀ (s : State) (b : Button),
    let n := (buttonBit s.cfg.buttonBit b).val
    (s.signalPressed b) = { s with sig := (s.signalPressed b).sig } ∧
    (s.signalReleased b) = { s with sig := (s.signalReleased b).sig } ∧
    (∀ k, k < 8 →
      (s.signalPressed b).sig.getLsbD k = (s.sig.getLsbD k || decide (k = n)) ∧
      (s.signalReleased b).sig.getLsbD k = (s.sig.getLsbD k && !decide (k = n))) ∧
    ((s.signalPressed b).signalPressed b).signalReleased b = s.signalReleased b

end Statements
end

