-- ==== Sys2Proof/Laws/Bits.lean ====
section
/-! SUPPORT. The halves of a word and the index addition. -/

namespace Sys2Proof.Machine

@[simp] theorem toNat_word (hi lo : Byte) : (word hi lo).toNat = hi.toNat * 256 + lo.toNat := by
  unfold word
  have e : (hi ++ lo : BitVec 16).toNat = hi.toNat <<< 8 ||| lo.toNat := BitVec.toNat_append hi lo
  have h := lo.isLt
  rw [e, ← Nat.shiftLeft_add_eq_or_of_lt (by omega), Nat.shiftLeft_eq]

@[simp] theorem toNat_lowByte (w : Word) : (lowByte w).toNat = w.toNat % 256 := by
  simp [lowByte]

@[simp] theorem toNat_highByte (w : Word) : (highByte w).toNat = w.toNat / 256 := by
  have h := w.isLt
  simp [highByte, Nat.shiftRight_eq_div_pow]
  omega

@[simp] theorem lowByte_word (hi lo : Byte) : lowByte (word hi lo) = lo := by
  apply BitVec.eq_of_toNat_eq; have h := lo.isLt; simp; omega

@[simp] theorem highByte_word (hi lo : Byte) : highByte (word hi lo) = hi := by
  apply BitVec.eq_of_toNat_eq; have h := lo.isLt; simp; omega

@[simp] theorem word_highByte_lowByte (w : Word) : word (highByte w) (lowByte w) = w := by
  apply BitVec.eq_of_toNat_eq; simp; omega

theorem word_inj {h l h' l' : Byte} (e : word h l = word h' l') : h = h' ∧ l = l' :=
  ⟨by simpa using congrArg highByte e, by simpa using congrArg lowByte e⟩

/-- The low byte of an indexed address needs no carry (R162, R164). -/
theorem lowByte_add_index (base : Word) (idx : Byte) :
    lowByte (base + idx.setWidth 16) = lowByte base + idx := by
  apply BitVec.eq_of_toNat_eq; simp

/-- Adding an index to the low byte and carrying into the high byte is adding it to the address
(R162, R164, R173, R175). -/
theorem word_add_index (lo hi idx : Byte) :
    word (if carriesOut lo idx then hi + 1 else hi) (lo + idx) = word hi lo + idx.setWidth 16 := by
  apply BitVec.eq_of_toNat_eq
  have h1 := lo.isLt; have h2 := hi.isLt; have h3 := idx.isLt
  by_cases h : 0xFF < lo.toNat + idx.toNat <;> simp [carriesOut, h] <;> omega

/-- A stack address lies in page one (R32). -/
theorem toNat_stackAddr (sp : Byte) : (stackAddr sp).toNat = 0x100 + sp.toNat := by
  simp [stackAddr]

theorem toNat_zeroPage (a : Byte) : (zeroPage a).toNat = a.toNat := by
  simp [zeroPage]

/-- A bus address is a CPU address modulo the 14-bit space (R71). -/
theorem busAddr_eq_mod (a : Word) : busAddr a = a.toNat % 0x4000 := by
  simp only [busAddr, BitVec.toNat_and, BitVec.toNat_ofNat]
  rw [show (0x3FFF % 2 ^ 16 : Nat) = 2 ^ 14 - 1 from rfl, Nat.and_two_pow_sub_one_eq_mod]

theorem busAddr_lt (a : Word) : busAddr a < 0x4000 := by
  rw [busAddr_eq_mod]; omega

end Sys2Proof.Machine
end

