-- ==== Sys2Proof/Laws/State.lean ====
section
/-! SUPPORT. One lemma per field per update of the state, so that no later proof unfolds a record update. -/

namespace Sys2Proof.Machine

/-! ### The processor -/

@[simp] theorem Cpu.incPc_regs (c : Cpu) : (c.incPc).regs = { c.regs with pc := c.regs.pc + 1 } := rfl
@[simp] theorem Cpu.incPc_micro (c : Cpu) : (c.incPc).micro = c.micro := rfl
@[simp] theorem Cpu.incPc_fault (c : Cpu) : (c.incPc).fault = c.fault := rfl
@[simp] theorem Cpu.incPc_nmiLine (c : Cpu) : (c.incPc).nmiLine = c.nmiLine := rfl
@[simp] theorem Cpu.incPc_irqLine (c : Cpu) : (c.incPc).irqLine = c.irqLine := rfl
@[simp] theorem Cpu.incPc_nmiPending (c : Cpu) : (c.incPc).nmiPending = c.nmiPending := rfl

@[simp] theorem Cpu.setPc_regs (c : Cpu) (w : Word) : (c.setPc w).regs = { c.regs with pc := w } := rfl
@[simp] theorem Cpu.setPc_micro (c : Cpu) (w : Word) : (c.setPc w).micro = c.micro := rfl
@[simp] theorem Cpu.setPc_fault (c : Cpu) (w : Word) : (c.setPc w).fault = c.fault := rfl
@[simp] theorem Cpu.setPc_nmiLine (c : Cpu) (w : Word) : (c.setPc w).nmiLine = c.nmiLine := rfl
@[simp] theorem Cpu.setPc_irqLine (c : Cpu) (w : Word) : (c.setPc w).irqLine = c.irqLine := rfl
@[simp] theorem Cpu.setPc_nmiPending (c : Cpu) (w : Word) : (c.setPc w).nmiPending = c.nmiPending := rfl

@[simp] theorem Cpu.mapRegs_regs (c : Cpu) (f : Regs → Regs) : (c.mapRegs f).regs = f c.regs := rfl
@[simp] theorem Cpu.mapRegs_micro (c : Cpu) (f : Regs → Regs) : (c.mapRegs f).micro = c.micro := rfl
@[simp] theorem Cpu.mapRegs_fault (c : Cpu) (f : Regs → Regs) : (c.mapRegs f).fault = c.fault := rfl
@[simp] theorem Cpu.mapRegs_nmiLine (c : Cpu) (f : Regs → Regs) : (c.mapRegs f).nmiLine = c.nmiLine := rfl
@[simp] theorem Cpu.mapRegs_irqLine (c : Cpu) (f : Regs → Regs) : (c.mapRegs f).irqLine = c.irqLine := rfl
@[simp] theorem Cpu.mapRegs_nmiPending (c : Cpu) (f : Regs → Regs) : (c.mapRegs f).nmiPending = c.nmiPending := rfl

@[simp] theorem Cpu.latch_regs (c : Cpu) (f : Micro → Micro) : (c.latch f).regs = c.regs := rfl
@[simp] theorem Cpu.latch_micro (c : Cpu) (f : Micro → Micro) : (c.latch f).micro = f c.micro := rfl
@[simp] theorem Cpu.latch_fault (c : Cpu) (f : Micro → Micro) : (c.latch f).fault = c.fault := rfl
@[simp] theorem Cpu.latch_nmiLine (c : Cpu) (f : Micro → Micro) : (c.latch f).nmiLine = c.nmiLine := rfl
@[simp] theorem Cpu.latch_irqLine (c : Cpu) (f : Micro → Micro) : (c.latch f).irqLine = c.irqLine := rfl
@[simp] theorem Cpu.latch_nmiPending (c : Cpu) (f : Micro → Micro) : (c.latch f).nmiPending = c.nmiPending := rfl

@[simp] theorem Cpu.decS_regs (c : Cpu) : (c.decS).regs = { c.regs with s := c.regs.s - 1 } := rfl
@[simp] theorem Cpu.decS_micro (c : Cpu) : (c.decS).micro = c.micro := rfl
@[simp] theorem Cpu.decS_fault (c : Cpu) : (c.decS).fault = c.fault := rfl
@[simp] theorem Cpu.decS_nmiLine (c : Cpu) : (c.decS).nmiLine = c.nmiLine := rfl
@[simp] theorem Cpu.decS_irqLine (c : Cpu) : (c.decS).irqLine = c.irqLine := rfl
@[simp] theorem Cpu.decS_nmiPending (c : Cpu) : (c.decS).nmiPending = c.nmiPending := rfl

@[simp] theorem Cpu.incS_regs (c : Cpu) : (c.incS).regs = { c.regs with s := c.regs.s + 1 } := rfl
@[simp] theorem Cpu.incS_micro (c : Cpu) : (c.incS).micro = c.micro := rfl
@[simp] theorem Cpu.incS_fault (c : Cpu) : (c.incS).fault = c.fault := rfl
@[simp] theorem Cpu.incS_nmiLine (c : Cpu) : (c.incS).nmiLine = c.nmiLine := rfl
@[simp] theorem Cpu.incS_irqLine (c : Cpu) : (c.incS).irqLine = c.irqLine := rfl
@[simp] theorem Cpu.incS_nmiPending (c : Cpu) : (c.incS).nmiPending = c.nmiPending := rfl

@[simp] theorem Cpu.startSeq_regs (c : Cpu) (q : Seq) : (c.startSeq q).regs = c.regs := rfl
@[simp] theorem Cpu.startSeq_micro (c : Cpu) (q : Seq) : (c.startSeq q).micro = { c.micro with cyc := 0, seq := q } := rfl
@[simp] theorem Cpu.startSeq_fault (c : Cpu) (q : Seq) : (c.startSeq q).fault = c.fault := rfl
@[simp] theorem Cpu.startSeq_nmiLine (c : Cpu) (q : Seq) : (c.startSeq q).nmiLine = c.nmiLine := rfl
@[simp] theorem Cpu.startSeq_irqLine (c : Cpu) (q : Seq) : (c.startSeq q).irqLine = c.irqLine := rfl
@[simp] theorem Cpu.startSeq_nmiPending (c : Cpu) (q : Seq) : (c.startSeq q).nmiPending = c.nmiPending := rfl

@[simp] theorem Cpu.endCycle_regs (c : Cpu) (b : Bool) : (c.endCycle b).regs = c.regs := by
  cases b <;> rfl
@[simp] theorem Cpu.endCycle_fault (c : Cpu) (b : Bool) : (c.endCycle b).fault = c.fault := by
  cases b <;> rfl
@[simp] theorem Cpu.endCycle_nmiLine (c : Cpu) (b : Bool) : (c.endCycle b).nmiLine = c.nmiLine := by
  cases b <;> rfl
@[simp] theorem Cpu.endCycle_irqLine (c : Cpu) (b : Bool) : (c.endCycle b).irqLine = c.irqLine := by
  cases b <;> rfl
@[simp] theorem Cpu.endCycle_nmiPending (c : Cpu) (b : Bool) : (c.endCycle b).nmiPending = c.nmiPending := by
  cases b <;> rfl
@[simp] theorem Cpu.endCycle_true_micro (c : Cpu) :
    (c.endCycle true).micro = { c.micro with cyc := 0, seq := .instr } := rfl
@[simp] theorem Cpu.endCycle_false_micro (c : Cpu) :
    (c.endCycle false).micro = { c.micro with cyc := c.micro.cyc + 1 } := rfl

/-! ### The machine -/

@[simp] theorem State.withCpu_cfg (s : State) (c : Cpu) : (s.withCpu c).cfg = s.cfg := rfl
@[simp] theorem State.withCpu_profile (s : State) (c : Cpu) : (s.withCpu c).profile = s.profile := rfl
@[simp] theorem State.withCpu_cpu (s : State) (c : Cpu) : (s.withCpu c).cpu = c := rfl
@[simp] theorem State.withCpu_mem (s : State) (c : Cpu) : (s.withCpu c).mem = s.mem := rfl
@[simp] theorem State.withCpu_vic (s : State) (c : Cpu) : (s.withCpu c).vic = s.vic := rfl
@[simp] theorem State.withCpu_pia (s : State) (c : Cpu) : (s.withCpu c).pia = s.pia := rfl
@[simp] theorem State.withCpu_sig (s : State) (c : Cpu) : (s.withCpu c).sig = s.sig := rfl
@[simp] theorem State.withCpu_paused (s : State) (c : Cpu) : (s.withCpu c).paused = s.paused := rfl
@[simp] theorem State.withCpu_skipRender (s : State) (c : Cpu) : (s.withCpu c).skipRender = s.skipRender := rfl
@[simp] theorem State.withCpu_draws (s : State) (c : Cpu) : (s.withCpu c).draws = s.draws := rfl

/-- Two updates of the processor are one. -/
@[simp] theorem State.withCpu_withCpu (s : State) (c d : Cpu) :
    (s.withCpu c).withCpu d = s.withCpu d := rfl

@[simp] theorem State.withCpu_self (s : State) : s.withCpu s.cpu = s := rfl

@[simp] theorem State.afterRead_cfg (s : State) (a : Word) :
    (s.afterRead a).cfg = s.cfg := rfl
@[simp] theorem State.afterRead_profile (s : State) (a : Word) :
    (s.afterRead a).profile = s.profile := rfl
@[simp] theorem State.afterRead_cpu (s : State) (a : Word) :
    (s.afterRead a).cpu = s.cpu := rfl
@[simp] theorem State.afterRead_mem (s : State) (a : Word) :
    (s.afterRead a).mem = s.mem := rfl
@[simp] theorem State.afterRead_vic (s : State) (a : Word) :
    (s.afterRead a).vic = s.vic := rfl
@[simp] theorem State.afterRead_pia (s : State) (a : Word) :
    (s.afterRead a).pia = s.pia := rfl
@[simp] theorem State.afterRead_sig (s : State) (a : Word) :
    (s.afterRead a).sig = s.sig := rfl
@[simp] theorem State.afterRead_paused (s : State) (a : Word) :
    (s.afterRead a).paused = s.paused := rfl
@[simp] theorem State.afterRead_skipRender (s : State) (a : Word) :
    (s.afterRead a).skipRender = s.skipRender := rfl
@[simp] theorem State.afterRead_draws (s : State) (a : Word) :
    (s.afterRead a).draws = if s.drawsAt a then s.draws + 1 else s.draws := rfl

@[simp] theorem State.writeByte_cfg (s : State) (a : Word) (v : Byte) :
    (s.writeByte a v).cfg = s.cfg := rfl
@[simp] theorem State.writeByte_profile (s : State) (a : Word) (v : Byte) :
    (s.writeByte a v).profile = s.profile := rfl
@[simp] theorem State.writeByte_cpu (s : State) (a : Word) (v : Byte) :
    (s.writeByte a v).cpu = s.cpu := rfl
@[simp] theorem State.writeByte_mem (s : State) (a : Word) (v : Byte) :
    (s.writeByte a v).mem = s.memAfterWrite a v := rfl
@[simp] theorem State.writeByte_vic (s : State) (a : Word) (v : Byte) :
    (s.writeByte a v).vic = s.vicAfterWrite a v := rfl
@[simp] theorem State.writeByte_pia (s : State) (a : Word) (v : Byte) :
    (s.writeByte a v).pia = s.piaAfterWrite a v := rfl
@[simp] theorem State.writeByte_sig (s : State) (a : Word) (v : Byte) :
    (s.writeByte a v).sig = s.sig := rfl
@[simp] theorem State.writeByte_paused (s : State) (a : Word) (v : Byte) :
    (s.writeByte a v).paused = s.paused := rfl
@[simp] theorem State.writeByte_skipRender (s : State) (a : Word) (v : Byte) :
    (s.writeByte a v).skipRender = s.skipRender := rfl
@[simp] theorem State.writeByte_draws (s : State) (a : Word) (v : Byte) :
    (s.writeByte a v).draws = s.draws := rfl

@[simp] theorem State.startSeq_cfg (s : State) (q : Seq) :
    (s.startSeq q).cfg = s.cfg := rfl
@[simp] theorem State.startSeq_profile (s : State) (q : Seq) :
    (s.startSeq q).profile = s.profile := rfl
@[simp] theorem State.startSeq_cpu (s : State) (q : Seq) :
    (s.startSeq q).cpu = s.cpu.startSeq q := rfl
@[simp] theorem State.startSeq_mem (s : State) (q : Seq) :
    (s.startSeq q).mem = s.mem := rfl
@[simp] theorem State.startSeq_vic (s : State) (q : Seq) :
    (s.startSeq q).vic = s.vic := rfl
@[simp] theorem State.startSeq_pia (s : State) (q : Seq) :
    (s.startSeq q).pia = s.pia := rfl
@[simp] theorem State.startSeq_sig (s : State) (q : Seq) :
    (s.startSeq q).sig = s.sig := rfl
@[simp] theorem State.startSeq_paused (s : State) (q : Seq) :
    (s.startSeq q).paused = s.paused := rfl
@[simp] theorem State.startSeq_skipRender (s : State) (q : Seq) :
    (s.startSeq q).skipRender = s.skipRender := rfl
@[simp] theorem State.startSeq_draws (s : State) (q : Seq) :
    (s.startSeq q).draws = s.draws := rfl

@[simp] theorem State.vicStep_cfg (s : State) :
    (s.vicStep).cfg = s.cfg := by
  unfold State.vicStep; split <;> rfl
@[simp] theorem State.vicStep_profile (s : State) :
    (s.vicStep).profile = s.profile := by
  unfold State.vicStep; split <;> rfl
@[simp] theorem State.vicStep_cpu (s : State) :
    (s.vicStep).cpu = s.cpu := by
  unfold State.vicStep; split <;> rfl
@[simp] theorem State.vicStep_mem (s : State) :
    (s.vicStep).mem = s.mem := by
  unfold State.vicStep; split <;> rfl
@[simp] theorem State.vicStep_pia (s : State) :
    (s.vicStep).pia = s.pia := by
  unfold State.vicStep; split <;> rfl
@[simp] theorem State.vicStep_sig (s : State) :
    (s.vicStep).sig = s.sig := by
  unfold State.vicStep; split <;> rfl
@[simp] theorem State.vicStep_paused (s : State) :
    (s.vicStep).paused = s.paused := by
  unfold State.vicStep; split <;> rfl
@[simp] theorem State.vicStep_skipRender (s : State) :
    (s.vicStep).skipRender = s.skipRender := by
  unfold State.vicStep; split <;> rfl

@[simp] theorem State.perform_cfg (s : State) (acc : Access) :
    (s.perform acc).cfg = s.cfg := by
  cases acc <;> rfl
@[simp] theorem State.perform_profile (s : State) (acc : Access) :
    (s.perform acc).profile = s.profile := by
  cases acc <;> rfl
@[simp] theorem State.perform_cpu (s : State) (acc : Access) :
    (s.perform acc).cpu = s.cpu := by
  cases acc <;> rfl
@[simp] theorem State.perform_sig (s : State) (acc : Access) :
    (s.perform acc).sig = s.sig := by
  cases acc <;> rfl
@[simp] theorem State.perform_paused (s : State) (acc : Access) :
    (s.perform acc).paused = s.paused := by
  cases acc <;> rfl
@[simp] theorem State.perform_skipRender (s : State) (acc : Access) :
    (s.perform acc).skipRender = s.skipRender := by
  cases acc <;> rfl

/-- The PIA's cycle step changes nothing (R479). -/
@[simp] theorem State.piaStep_eq (s : State) : s.piaStep = s := rfl

@[simp] theorem State.perform_read (s : State) (a : Word) : s.perform (.read a) = s.afterRead a := rfl
@[simp] theorem State.perform_write (s : State) (a : Word) (v : Byte) :
    s.perform (.write a v) = s.writeByte a v := rfl
@[simp] theorem State.accessByte_read (s : State) (a : Word) : s.accessByte (.read a) = s.readByte a := rfl
@[simp] theorem State.accessByte_write (s : State) (a : Word) (v : Byte) :
    s.accessByte (.write a v) = 0x00#8 := rfl

@[simp] theorem State.readCycle_cfg (s : State) (a : Word) :
    (s.readCycle a).cfg = s.cfg := by
  simp [State.readCycle]
@[simp] theorem State.readCycle_profile (s : State) (a : Word) :
    (s.readCycle a).profile = s.profile := by
  simp [State.readCycle]
@[simp] theorem State.readCycle_cpu (s : State) (a : Word) :
    (s.readCycle a).cpu = s.cpu := by
  simp [State.readCycle]
@[simp] theorem State.readCycle_mem (s : State) (a : Word) :
    (s.readCycle a).mem = s.mem := by
  simp [State.readCycle]
@[simp] theorem State.readCycle_vic (s : State) (a : Word) :
    (s.readCycle a).vic = s.vicStep.vic := by
  simp [State.readCycle]
@[simp] theorem State.readCycle_pia (s : State) (a : Word) :
    (s.readCycle a).pia = s.pia := by
  simp [State.readCycle]
@[simp] theorem State.readCycle_sig (s : State) (a : Word) :
    (s.readCycle a).sig = s.sig := by
  simp [State.readCycle]
@[simp] theorem State.readCycle_paused (s : State) (a : Word) :
    (s.readCycle a).paused = s.paused := by
  simp [State.readCycle]
@[simp] theorem State.readCycle_skipRender (s : State) (a : Word) :
    (s.readCycle a).skipRender = s.skipRender := by
  simp [State.readCycle]

@[simp] theorem State.writeCycle_cfg (s : State) (a : Word) (v : Byte) :
    (s.writeCycle a v).cfg = s.cfg := by
  simp [State.writeCycle]
@[simp] theorem State.writeCycle_profile (s : State) (a : Word) (v : Byte) :
    (s.writeCycle a v).profile = s.profile := by
  simp [State.writeCycle]
@[simp] theorem State.writeCycle_cpu (s : State) (a : Word) (v : Byte) :
    (s.writeCycle a v).cpu = s.cpu := by
  simp [State.writeCycle]
@[simp] theorem State.writeCycle_mem (s : State) (a : Word) (v : Byte) :
    (s.writeCycle a v).mem = s.vicStep.memAfterWrite a v := by
  simp [State.writeCycle]
@[simp] theorem State.writeCycle_vic (s : State) (a : Word) (v : Byte) :
    (s.writeCycle a v).vic = s.vicStep.vicAfterWrite a v := by
  simp [State.writeCycle]
@[simp] theorem State.writeCycle_pia (s : State) (a : Word) (v : Byte) :
    (s.writeCycle a v).pia = s.vicStep.piaAfterWrite a v := by
  simp [State.writeCycle]
@[simp] theorem State.writeCycle_sig (s : State) (a : Word) (v : Byte) :
    (s.writeCycle a v).sig = s.sig := by
  simp [State.writeCycle]
@[simp] theorem State.writeCycle_paused (s : State) (a : Word) (v : Byte) :
    (s.writeCycle a v).paused = s.paused := by
  simp [State.writeCycle]
@[simp] theorem State.writeCycle_skipRender (s : State) (a : Word) (v : Byte) :
    (s.writeCycle a v).skipRender = s.skipRender := by
  simp [State.writeCycle]
@[simp] theorem State.writeCycle_draws (s : State) (a : Word) (v : Byte) :
    (s.writeCycle a v).draws = s.vicStep.draws := by
  simp [State.writeCycle]

@[simp] theorem State.setSkip_cfg (s : State) (b : Bool) :
    (s.setSkip b).cfg = s.cfg := rfl
@[simp] theorem State.setSkip_profile (s : State) (b : Bool) :
    (s.setSkip b).profile = s.profile := rfl
@[simp] theorem State.setSkip_cpu (s : State) (b : Bool) :
    (s.setSkip b).cpu = s.cpu := rfl
@[simp] theorem State.setSkip_mem (s : State) (b : Bool) :
    (s.setSkip b).mem = s.mem := rfl
@[simp] theorem State.setSkip_vic (s : State) (b : Bool) :
    (s.setSkip b).vic = s.vic := rfl
@[simp] theorem State.setSkip_pia (s : State) (b : Bool) :
    (s.setSkip b).pia = s.pia := rfl
@[simp] theorem State.setSkip_sig (s : State) (b : Bool) :
    (s.setSkip b).sig = s.sig := rfl
@[simp] theorem State.setSkip_paused (s : State) (b : Bool) :
    (s.setSkip b).paused = s.paused := rfl
@[simp] theorem State.setSkip_skipRender (s : State) (b : Bool) :
    (s.setSkip b).skipRender = b := rfl
@[simp] theorem State.setSkip_draws (s : State) (b : Bool) :
    (s.setSkip b).draws = s.draws := rfl

@[simp] theorem State.setPaused_cfg (s : State) (b : Bool) :
    (s.setPaused b).cfg = s.cfg := rfl
@[simp] theorem State.setPaused_profile (s : State) (b : Bool) :
    (s.setPaused b).profile = s.profile := rfl
@[simp] theorem State.setPaused_cpu (s : State) (b : Bool) :
    (s.setPaused b).cpu = s.cpu := rfl
@[simp] theorem State.setPaused_mem (s : State) (b : Bool) :
    (s.setPaused b).mem = s.mem := rfl
@[simp] theorem State.setPaused_vic (s : State) (b : Bool) :
    (s.setPaused b).vic = s.vic := rfl
@[simp] theorem State.setPaused_pia (s : State) (b : Bool) :
    (s.setPaused b).pia = s.pia := rfl
@[simp] theorem State.setPaused_sig (s : State) (b : Bool) :
    (s.setPaused b).sig = s.sig := rfl
@[simp] theorem State.setPaused_paused (s : State) (b : Bool) :
    (s.setPaused b).paused = b := rfl
@[simp] theorem State.setPaused_skipRender (s : State) (b : Bool) :
    (s.setPaused b).skipRender = s.skipRender := rfl
@[simp] theorem State.setPaused_draws (s : State) (b : Bool) :
    (s.setPaused b).draws = s.draws := rfl

@[simp] theorem State.signalPressed_cfg (s : State) (b : Button) :
    (s.signalPressed b).cfg = s.cfg := rfl
@[simp] theorem State.signalPressed_profile (s : State) (b : Button) :
    (s.signalPressed b).profile = s.profile := rfl
@[simp] theorem State.signalPressed_cpu (s : State) (b : Button) :
    (s.signalPressed b).cpu = s.cpu := rfl
@[simp] theorem State.signalPressed_mem (s : State) (b : Button) :
    (s.signalPressed b).mem = s.mem := rfl
@[simp] theorem State.signalPressed_vic (s : State) (b : Button) :
    (s.signalPressed b).vic = s.vic := rfl
@[simp] theorem State.signalPressed_pia (s : State) (b : Button) :
    (s.signalPressed b).pia = s.pia := rfl
@[simp] theorem State.signalPressed_sig (s : State) (b : Button) :
    (s.signalPressed b).sig = s.sig ||| s.buttonMask b := rfl
@[simp] theorem State.signalPressed_paused (s : State) (b : Button) :
    (s.signalPressed b).paused = s.paused := rfl
@[simp] theorem State.signalPressed_skipRender (s : State) (b : Button) :
    (s.signalPressed b).skipRender = s.skipRender := rfl
@[simp] theorem State.signalPressed_draws (s : State) (b : Button) :
    (s.signalPressed b).draws = s.draws := rfl

@[simp] theorem State.signalReleased_cfg (s : State) (b : Button) :
    (s.signalReleased b).cfg = s.cfg := rfl
@[simp] theorem State.signalReleased_profile (s : State) (b : Button) :
    (s.signalReleased b).profile = s.profile := rfl
@[simp] theorem State.signalReleased_cpu (s : State) (b : Button) :
    (s.signalReleased b).cpu = s.cpu := rfl
@[simp] theorem State.signalReleased_mem (s : State) (b : Button) :
    (s.signalReleased b).mem = s.mem := rfl
@[simp] theorem State.signalReleased_vic (s : State) (b : Button) :
    (s.signalReleased b).vic = s.vic := rfl
@[simp] theorem State.signalReleased_pia (s : State) (b : Button) :
    (s.signalReleased b).pia = s.pia := rfl
@[simp] theorem State.signalReleased_sig (s : State) (b : Button) :
    (s.signalReleased b).sig = s.sig &&& ~~~s.buttonMask b := rfl
@[simp] theorem State.signalReleased_paused (s : State) (b : Button) :
    (s.signalReleased b).paused = s.paused := rfl
@[simp] theorem State.signalReleased_skipRender (s : State) (b : Button) :
    (s.signalReleased b).skipRender = s.skipRender := rfl
@[simp] theorem State.signalReleased_draws (s : State) (b : Button) :
    (s.signalReleased b).draws = s.draws := rfl

@[simp] theorem State.frameTaken_cfg (s : State) :
    (s.frameTaken).cfg = s.cfg := rfl
@[simp] theorem State.frameTaken_profile (s : State) :
    (s.frameTaken).profile = s.profile := rfl
@[simp] theorem State.frameTaken_cpu (s : State) :
    (s.frameTaken).cpu = s.cpu := rfl
@[simp] theorem State.frameTaken_mem (s : State) :
    (s.frameTaken).mem = s.mem := rfl
@[simp] theorem State.frameTaken_pia (s : State) :
    (s.frameTaken).pia = s.pia := rfl
@[simp] theorem State.frameTaken_sig (s : State) :
    (s.frameTaken).sig = s.sig := rfl
@[simp] theorem State.frameTaken_paused (s : State) :
    (s.frameTaken).paused = s.paused := rfl
@[simp] theorem State.frameTaken_skipRender (s : State) :
    (s.frameTaken).skipRender = s.skipRender := rfl
@[simp] theorem State.frameTaken_draws (s : State) :
    (s.frameTaken).draws = s.draws := rfl

@[simp] theorem State.cpuReset_cfg (s : State) : s.cpuReset.cfg = s.cfg := by
  unfold State.cpuReset; cases s.cfg.resetCycles <;> rfl
@[simp] theorem State.cpuReset_profile (s : State) : s.cpuReset.profile = s.profile := by
  unfold State.cpuReset; cases s.cfg.resetCycles <;> rfl
@[simp] theorem State.cpuReset_mem (s : State) : s.cpuReset.mem = s.mem := by
  unfold State.cpuReset; cases s.cfg.resetCycles <;> rfl
@[simp] theorem State.cpuReset_vic (s : State) : s.cpuReset.vic = s.vic := by
  unfold State.cpuReset; cases s.cfg.resetCycles <;> rfl
@[simp] theorem State.cpuReset_pia (s : State) : s.cpuReset.pia = s.pia := by
  unfold State.cpuReset; cases s.cfg.resetCycles <;> rfl
@[simp] theorem State.cpuReset_sig (s : State) : s.cpuReset.sig = s.sig := by
  unfold State.cpuReset; cases s.cfg.resetCycles <;> rfl
@[simp] theorem State.cpuReset_paused (s : State) : s.cpuReset.paused = s.paused := by
  unfold State.cpuReset; cases s.cfg.resetCycles <;> rfl
@[simp] theorem State.cpuReset_skipRender (s : State) : s.cpuReset.skipRender = s.skipRender := by
  unfold State.cpuReset; cases s.cfg.resetCycles <;> rfl
@[simp] theorem State.cpuReset_draws (s : State) : s.cpuReset.draws = s.draws := by
  unfold State.cpuReset; cases s.cfg.resetCycles <;> rfl

@[simp] theorem State.lifecycleReset_cfg (s : State) : s.lifecycleReset.cfg = s.cfg := by
  simp [State.lifecycleReset]
@[simp] theorem State.lifecycleReset_profile (s : State) : s.lifecycleReset.profile = s.profile := by
  simp [State.lifecycleReset]
@[simp] theorem State.lifecycleReset_mem (s : State) : s.lifecycleReset.mem = s.mem := by
  simp [State.lifecycleReset]
@[simp] theorem State.lifecycleReset_vic (s : State) : s.lifecycleReset.vic = s.vic := by
  simp [State.lifecycleReset]
@[simp] theorem State.lifecycleReset_sig (s : State) : s.lifecycleReset.sig = s.sig := by
  simp [State.lifecycleReset]
@[simp] theorem State.lifecycleReset_paused (s : State) : s.lifecycleReset.paused = s.paused := by
  simp [State.lifecycleReset]
@[simp] theorem State.lifecycleReset_skipRender (s : State) : s.lifecycleReset.skipRender = s.skipRender := by
  simp [State.lifecycleReset]
@[simp] theorem State.lifecycleReset_draws (s : State) : s.lifecycleReset.draws = s.draws := by
  simp [State.lifecycleReset]
@[simp] theorem State.lifecycleReset_pia (s : State) : s.lifecycleReset.pia = Pia.reset := rfl
@[simp] theorem State.lifecycleReset_cpu (s : State) : s.lifecycleReset.cpu = s.cpuReset.cpu := rfl

/-! ### The VIC -/

@[simp] theorem Vic.setFrame_reg (w : Vic) (k : FrameId) (f : Frame) :
    (w.setFrame k f).reg = w.reg := by
  cases k <;> rfl
@[simp] theorem Vic.setFrame_derived (w : Vic) (k : FrameId) (f : Frame) :
    (w.setFrame k f).derived = w.derived := by
  cases k <;> rfl
@[simp] theorem Vic.setFrame_mc (w : Vic) (k : FrameId) (f : Frame) :
    (w.setFrame k f).mc = w.mc := by
  cases k <;> rfl
@[simp] theorem Vic.setFrame_h (w : Vic) (k : FrameId) (f : Frame) :
    (w.setFrame k f).h = w.h := by
  cases k <;> rfl
@[simp] theorem Vic.setFrame_v (w : Vic) (k : FrameId) (f : Frame) :
    (w.setFrame k f).v = w.v := by
  cases k <;> rfl
@[simp] theorem Vic.setFrame_matrixCounter (w : Vic) (k : FrameId) (f : Frame) :
    (w.setFrame k f).matrixCounter = w.matrixCounter := by
  cases k <;> rfl
@[simp] theorem Vic.setFrame_rowStart (w : Vic) (k : FrameId) (f : Frame) :
    (w.setFrame k f).rowStart = w.rowStart := by
  cases k <;> rfl
@[simp] theorem Vic.setFrame_cellDepth (w : Vic) (k : FrameId) (f : Frame) :
    (w.setFrame k f).cellDepth = w.cellDepth := by
  cases k <;> rfl
@[simp] theorem Vic.setFrame_fetchToggle (w : Vic) (k : FrameId) (f : Frame) :
    (w.setFrame k f).fetchToggle = w.fetchToggle := by
  cases k <;> rfl
@[simp] theorem Vic.setFrame_cellCode (w : Vic) (k : FrameId) (f : Frame) :
    (w.setFrame k f).cellCode = w.cellCode := by
  cases k <;> rfl
@[simp] theorem Vic.setFrame_cellColour (w : Vic) (k : FrameId) (f : Frame) :
    (w.setFrame k f).cellColour = w.cellColour := by
  cases k <;> rfl
@[simp] theorem Vic.setFrame_lastFetch (w : Vic) (k : FrameId) (f : Frame) :
    (w.setFrame k f).lastFetch = w.lastFetch := by
  cases k <;> rfl
@[simp] theorem Vic.setFrame_pixelCursor (w : Vic) (k : FrameId) (f : Frame) :
    (w.setFrame k f).pixelCursor = w.pixelCursor := by
  cases k <;> rfl
@[simp] theorem Vic.setFrame_active (w : Vic) (k : FrameId) (f : Frame) :
    (w.setFrame k f).active = w.active := by
  cases k <;> rfl

@[simp] theorem Vic.frame_setFrame_same (w : Vic) (k : FrameId) (f : Frame) :
    (w.setFrame k f).frame k = f := by
  cases k <;> rfl
@[simp] theorem Vic.frame_setFrame_other (w : Vic) (k : FrameId) (f : Frame) :
    (w.setFrame k f).frame k.other = w.frame k.other := by
  cases k <;> rfl
@[simp] theorem Vic.frame_setFrame_of_other (w : Vic) (k : FrameId) (f : Frame) :
    (w.setFrame k.other f).frame k = w.frame k := by
  cases k <;> rfl
@[simp] theorem FrameId.other_other (k : FrameId) : k.other.other = k := by cases k <;> rfl

@[simp] theorem Vic.mirror_derived (w : Vic) (x : Nat) :
    (w.mirror x).derived = w.derived := rfl
@[simp] theorem Vic.mirror_mc (w : Vic) (x : Nat) :
    (w.mirror x).mc = w.mc := rfl
@[simp] theorem Vic.mirror_h (w : Vic) (x : Nat) :
    (w.mirror x).h = w.h := rfl
@[simp] theorem Vic.mirror_v (w : Vic) (x : Nat) :
    (w.mirror x).v = w.v := rfl
@[simp] theorem Vic.mirror_matrixCounter (w : Vic) (x : Nat) :
    (w.mirror x).matrixCounter = w.matrixCounter := rfl
@[simp] theorem Vic.mirror_rowStart (w : Vic) (x : Nat) :
    (w.mirror x).rowStart = w.rowStart := rfl
@[simp] theorem Vic.mirror_cellDepth (w : Vic) (x : Nat) :
    (w.mirror x).cellDepth = w.cellDepth := rfl
@[simp] theorem Vic.mirror_fetchToggle (w : Vic) (x : Nat) :
    (w.mirror x).fetchToggle = w.fetchToggle := rfl
@[simp] theorem Vic.mirror_cellCode (w : Vic) (x : Nat) :
    (w.mirror x).cellCode = w.cellCode := rfl
@[simp] theorem Vic.mirror_cellColour (w : Vic) (x : Nat) :
    (w.mirror x).cellColour = w.cellColour := rfl
@[simp] theorem Vic.mirror_lastFetch (w : Vic) (x : Nat) :
    (w.mirror x).lastFetch = w.lastFetch := rfl
@[simp] theorem Vic.mirror_pixelCursor (w : Vic) (x : Nat) :
    (w.mirror x).pixelCursor = w.pixelCursor := rfl
@[simp] theorem Vic.mirror_frame0 (w : Vic) (x : Nat) :
    (w.mirror x).frame0 = w.frame0 := rfl
@[simp] theorem Vic.mirror_frame1 (w : Vic) (x : Nat) :
    (w.mirror x).frame1 = w.frame1 := rfl
@[simp] theorem Vic.mirror_active (w : Vic) (x : Nat) :
    (w.mirror x).active = w.active := rfl

@[simp] theorem Vic.emit_reg (w : Vic) (n : Nat) (c : BitVec 4) :
    (w.emit n c).reg = w.reg := by
  unfold Vic.emit; simp
@[simp] theorem Vic.emit_derived (w : Vic) (n : Nat) (c : BitVec 4) :
    (w.emit n c).derived = w.derived := by
  unfold Vic.emit; simp
@[simp] theorem Vic.emit_mc (w : Vic) (n : Nat) (c : BitVec 4) :
    (w.emit n c).mc = w.mc := by
  unfold Vic.emit; simp
@[simp] theorem Vic.emit_h (w : Vic) (n : Nat) (c : BitVec 4) :
    (w.emit n c).h = w.h := by
  unfold Vic.emit; simp
@[simp] theorem Vic.emit_v (w : Vic) (n : Nat) (c : BitVec 4) :
    (w.emit n c).v = w.v := by
  unfold Vic.emit; simp
@[simp] theorem Vic.emit_matrixCounter (w : Vic) (n : Nat) (c : BitVec 4) :
    (w.emit n c).matrixCounter = w.matrixCounter := by
  unfold Vic.emit; simp
@[simp] theorem Vic.emit_rowStart (w : Vic) (n : Nat) (c : BitVec 4) :
    (w.emit n c).rowStart = w.rowStart := by
  unfold Vic.emit; simp
@[simp] theorem Vic.emit_cellDepth (w : Vic) (n : Nat) (c : BitVec 4) :
    (w.emit n c).cellDepth = w.cellDepth := by
  unfold Vic.emit; simp
@[simp] theorem Vic.emit_fetchToggle (w : Vic) (n : Nat) (c : BitVec 4) :
    (w.emit n c).fetchToggle = w.fetchToggle := by
  unfold Vic.emit; simp
@[simp] theorem Vic.emit_cellCode (w : Vic) (n : Nat) (c : BitVec 4) :
    (w.emit n c).cellCode = w.cellCode := by
  unfold Vic.emit; simp
@[simp] theorem Vic.emit_cellColour (w : Vic) (n : Nat) (c : BitVec 4) :
    (w.emit n c).cellColour = w.cellColour := by
  unfold Vic.emit; simp
@[simp] theorem Vic.emit_lastFetch (w : Vic) (n : Nat) (c : BitVec 4) :
    (w.emit n c).lastFetch = w.lastFetch := by
  unfold Vic.emit; simp
@[simp] theorem Vic.emit_pixelCursor (w : Vic) (n : Nat) (c : BitVec 4) :
    (w.emit n c).pixelCursor = w.pixelCursor + 1 := by
  unfold Vic.emit; simp
@[simp] theorem Vic.emit_active (w : Vic) (n : Nat) (c : BitVec 4) :
    (w.emit n c).active = w.active := by
  unfold Vic.emit; simp

@[simp] theorem Vic.frameEnd_reg (w : Vic) :
    (w.frameEnd).reg = w.reg := by
  simp [Vic.frameEnd]
@[simp] theorem Vic.frameEnd_derived (w : Vic) :
    (w.frameEnd).derived = w.derived := by
  simp [Vic.frameEnd]
@[simp] theorem Vic.frameEnd_mc (w : Vic) :
    (w.frameEnd).mc = w.mc := by
  simp [Vic.frameEnd]
@[simp] theorem Vic.frameEnd_h (w : Vic) :
    (w.frameEnd).h = w.h := by
  simp [Vic.frameEnd]
@[simp] theorem Vic.frameEnd_v (w : Vic) :
    (w.frameEnd).v = w.v := by
  simp [Vic.frameEnd]
@[simp] theorem Vic.frameEnd_matrixCounter (w : Vic) :
    (w.frameEnd).matrixCounter = 0#16 := by
  simp [Vic.frameEnd]
@[simp] theorem Vic.frameEnd_rowStart (w : Vic) :
    (w.frameEnd).rowStart = 0#16 := by
  simp [Vic.frameEnd]
@[simp] theorem Vic.frameEnd_cellDepth (w : Vic) :
    (w.frameEnd).cellDepth = 0 := by
  simp [Vic.frameEnd]
@[simp] theorem Vic.frameEnd_fetchToggle (w : Vic) :
    (w.frameEnd).fetchToggle = w.fetchToggle := by
  simp [Vic.frameEnd]
@[simp] theorem Vic.frameEnd_cellCode (w : Vic) :
    (w.frameEnd).cellCode = w.cellCode := by
  simp [Vic.frameEnd]
@[simp] theorem Vic.frameEnd_cellColour (w : Vic) :
    (w.frameEnd).cellColour = w.cellColour := by
  simp [Vic.frameEnd]
@[simp] theorem Vic.frameEnd_lastFetch (w : Vic) :
    (w.frameEnd).lastFetch = w.lastFetch := by
  simp [Vic.frameEnd]
@[simp] theorem Vic.frameEnd_pixelCursor (w : Vic) :
    (w.frameEnd).pixelCursor = 0 := by
  simp [Vic.frameEnd]
@[simp] theorem Vic.frameEnd_active (w : Vic) :
    (w.frameEnd).active = w.active.other := by
  simp [Vic.frameEnd]

@[simp] theorem Vic.lineAdvance_reg (w : Vic) (p : RowAdvance) (n : Nat) :
    (w.lineAdvance p n).reg = w.reg := by
  unfold Vic.lineAdvance; split <;> (try split) <;> rfl
@[simp] theorem Vic.lineAdvance_derived (w : Vic) (p : RowAdvance) (n : Nat) :
    (w.lineAdvance p n).derived = w.derived := by
  unfold Vic.lineAdvance; split <;> (try split) <;> rfl
@[simp] theorem Vic.lineAdvance_mc (w : Vic) (p : RowAdvance) (n : Nat) :
    (w.lineAdvance p n).mc = w.mc := by
  unfold Vic.lineAdvance; split <;> (try split) <;> rfl
@[simp] theorem Vic.lineAdvance_h (w : Vic) (p : RowAdvance) (n : Nat) :
    (w.lineAdvance p n).h = w.h := by
  unfold Vic.lineAdvance; split <;> (try split) <;> rfl
@[simp] theorem Vic.lineAdvance_v (w : Vic) (p : RowAdvance) (n : Nat) :
    (w.lineAdvance p n).v = w.v := by
  unfold Vic.lineAdvance; split <;> (try split) <;> rfl
@[simp] theorem Vic.lineAdvance_fetchToggle (w : Vic) (p : RowAdvance) (n : Nat) :
    (w.lineAdvance p n).fetchToggle = w.fetchToggle := by
  unfold Vic.lineAdvance; split <;> (try split) <;> rfl
@[simp] theorem Vic.lineAdvance_cellCode (w : Vic) (p : RowAdvance) (n : Nat) :
    (w.lineAdvance p n).cellCode = w.cellCode := by
  unfold Vic.lineAdvance; split <;> (try split) <;> rfl
@[simp] theorem Vic.lineAdvance_cellColour (w : Vic) (p : RowAdvance) (n : Nat) :
    (w.lineAdvance p n).cellColour = w.cellColour := by
  unfold Vic.lineAdvance; split <;> (try split) <;> rfl
@[simp] theorem Vic.lineAdvance_lastFetch (w : Vic) (p : RowAdvance) (n : Nat) :
    (w.lineAdvance p n).lastFetch = w.lastFetch := by
  unfold Vic.lineAdvance; split <;> (try split) <;> rfl
@[simp] theorem Vic.lineAdvance_pixelCursor (w : Vic) (p : RowAdvance) (n : Nat) :
    (w.lineAdvance p n).pixelCursor = w.pixelCursor := by
  unfold Vic.lineAdvance; split <;> (try split) <;> rfl
@[simp] theorem Vic.lineAdvance_frame0 (w : Vic) (p : RowAdvance) (n : Nat) :
    (w.lineAdvance p n).frame0 = w.frame0 := by
  unfold Vic.lineAdvance; split <;> (try split) <;> rfl
@[simp] theorem Vic.lineAdvance_frame1 (w : Vic) (p : RowAdvance) (n : Nat) :
    (w.lineAdvance p n).frame1 = w.frame1 := by
  unfold Vic.lineAdvance; split <;> (try split) <;> rfl
@[simp] theorem Vic.lineAdvance_active (w : Vic) (p : RowAdvance) (n : Nat) :
    (w.lineAdvance p n).active = w.active := by
  unfold Vic.lineAdvance; split <;> (try split) <;> rfl

end Sys2Proof.Machine
end

