-- ==== Sys2Proof/Laws/Exec.lean ====
section
/-! SUPPORT. What every meaning is (one run of its form's cycle table on its own bytes), and what one
machine cycle of a row does, said once. -/

namespace Sys2Proof.Machine

/-- Every meaning runs the cycle table of its instruction's form on the instruction's bytes. -/
theorem exec_eq_runForm (i : Instr) (s : State) :
    exec i s = .next (s.runForm (formOf i) (encode i)) := by
  cases i <;> rfl

/-- The opcode alone selects the form (R120, R153). -/
theorem formOfOpcode_opcode (i : Instr) : formOfOpcode i.opcode = some (formOf i) := by
  cases i <;> rfl

/-- Every instruction's opcode is documented (R127). -/
theorem documented_opcode (i : Instr) : documented i.opcode = true := by
  cases i <;> rfl

/-! ### What does not depend on the processor -/

theorem State.readByte_withCpu (s : State) (c : Cpu) (a : Word) :
    (s.withCpu c).readByte a = s.readByte a := rfl

theorem State.afterRead_withCpu (s : State) (c : Cpu) (a : Word) :
    (s.withCpu c).afterRead a = (s.afterRead a).withCpu c := rfl

theorem State.writeByte_withCpu (s : State) (c : Cpu) (a : Word) (v : Byte) :
    (s.withCpu c).writeByte a v = (s.writeByte a v).withCpu c := rfl

theorem State.vicStep_withCpu (s : State) (c : Cpu) :
    (s.withCpu c).vicStep = (s.vicStep).withCpu c := by
  have h : (s.withCpu c).skipRender = s.skipRender := rfl
  unfold State.vicStep
  rw [h]
  split <;> rfl

@[simp] theorem State.readCycle_withCpu (s : State) (c : Cpu) (a : Word) :
    (s.withCpu c).readCycle a = (s.readCycle a).withCpu c := by
  simp [State.readCycle, State.vicStep_withCpu, State.afterRead_withCpu]

@[simp] theorem State.writeCycle_withCpu (s : State) (c : Cpu) (a : Word) (v : Byte) :
    (s.withCpu c).writeCycle a v = (s.writeCycle a v).withCpu c := by
  simp [State.writeCycle, State.vicStep_withCpu, State.writeByte_withCpu]

@[simp] theorem State.readAt_withCpu (s : State) (c : Cpu) (a : Word) :
    (s.withCpu c).readAt a = s.readAt a := by
  simp [State.readAt, State.vicStep_withCpu, State.readByte_withCpu]

@[simp] theorem State.reads_nil (s : State) : s.reads [] = s := rfl

@[simp] theorem State.reads_cons (s : State) (a : Word) (l : List Word) :
    s.reads (a :: l) = (s.readCycle a).reads l := rfl

theorem State.reads_append (s : State) (k l : List Word) :
    s.reads (k ++ l) = (s.reads k).reads l := by
  simp [State.reads, List.foldl_append]

@[simp] theorem State.reads_withCpu (s : State) (c : Cpu) (l : List Word) :
    (s.withCpu c).reads l = (s.reads l).withCpu c := by
  induction l generalizing s with
  | nil => rfl
  | cons a l ih => simp [ih]

@[simp] theorem State.reads_cpu (s : State) (l : List Word) : (s.reads l).cpu = s.cpu := by
  induction l generalizing s with
  | nil => rfl
  | cons a l ih => simp [ih]

/-! ### One machine cycle of a row -/

/-- A row that reads (R501): the machine after a read cycle, with the row's updates of the processor. -/
theorem State.rowCycle_of_read {s : State} {r : Row} {a : Word} (h : r.access s.cpu = .read a)
    (g : Option Byte) (f : Bool) :
    s.rowCycle r g f =
      (s.readCycle a).withCpu ((r.update (g.getD (s.readAt a)) s.cpu).endCycle
        (f || r.last (g.getD (s.readAt a)) s.cpu)) := by
  simp [State.rowCycle, State.rowStep, h, State.readCycle, State.readAt]

/-- A row that writes (R501). -/
theorem State.rowCycle_of_write {s : State} {r : Row} {a : Word} {v : Byte}
    (h : r.access s.cpu = .write a v) (g : Option Byte) (f : Bool) :
    s.rowCycle r g f =
      (s.writeCycle a v).withCpu ((r.update (g.getD 0x00#8) s.cpu).endCycle
        (f || r.last (g.getD 0x00#8) s.cpu)) := by
  simp [State.rowCycle, State.rowStep, h, State.writeCycle]

/-- The same for a row written out. -/
theorem State.rowCycle_write (s : State) (a : Cpu → Word) (v : Cpu → Byte)
    (update : Byte → Cpu → Cpu) (last : Byte → Cpu → Bool) (stream : Bool) (g : Option Byte) (f : Bool) :
    s.rowCycle { access := fun c => .write (a c) (v c), update, last, stream } g f =
      (s.writeCycle (a s.cpu) (v s.cpu)).withCpu ((update (g.getD 0x00#8) s.cpu).endCycle
        (f || last (g.getD 0x00#8) s.cpu)) :=
  State.rowCycle_of_write rfl g f

/-- The last row of a sequence ends it. -/
theorem State.runRows_singleton (r : Row) (bytes : List Byte) (s : State) :
    State.runRows [r] bytes s = s.rowCycle r (if r.stream then bytes.head? else none) true := by
  simp [State.runRows, State.rowCycle, State.rowStep]

/-- Any other row goes on to the next unless it ends the sequence early. -/
theorem State.runRows_cons_cons (r q : Row) (rest : List Row) (bytes : List Byte) (s : State) :
    State.runRows (r :: q :: rest) bytes s =
      if r.last ((if r.stream then bytes.head? else none).getD
          (s.vicStep.accessByte (r.access s.cpu))) s.cpu then
        s.rowCycle r (if r.stream then bytes.head? else none) false
      else State.runRows (q :: rest) (if r.stream then bytes.tail else bytes)
        (s.rowCycle r (if r.stream then bytes.head? else none) false) := by
  rw [State.runRows]
  simp only [List.isEmpty_cons, State.rowCycle, State.rowStep, State.vicStep_cpu, State.piaStep_eq,
    Bool.false_or]
  cases r.last ((if r.stream then bytes.head? else none).getD
      (s.vicStep.accessByte (r.access s.cpu))) s.cpu <;> simp

end Sys2Proof.Machine
end

