-- ==== Sys2Proof/Laws/Forms.lean ====
section
/-! SUPPORT. What each cycle table does, said once for all the instructions that run it: the bus accesses
in their order and the registers at the end.  Later proofs cite these and unfold no table. -/

set_option linter.unusedSimpArgs false

namespace Sys2Proof.Machine

/-- The length of the instructions of an addressing mode (R157 to R164). -/
def Mode.length : Mode → Nat
  | .abs | .absX | .absY => 3
  | _ => 2

/-- The run from `s` to `t` agrees with `u` outside the processor and ends at an instruction boundary with
the registers `q`. -/
structure Ends (s t u : State) (q : Regs) : Prop where
  outside : t = u.withCpu t.cpu
  regs : t.cpu.regs = q
  cyc : t.cpu.micro.cyc = 0
  seq : t.cpu.micro.seq = .instr
  fault : t.cpu.fault = s.cpu.fault
  nmiLine : t.cpu.nmiLine = s.cpu.nmiLine
  irqLine : t.cpu.irqLine = s.cpu.irqLine
  nmiPending : t.cpu.nmiPending = s.cpu.nmiPending

/-- An instruction completes when the run of its form's table does. -/
theorem Ends.completes {i : Instr} {s u : State} {q : Regs}
    (h : Ends s (s.runForm (formOf i) (encode i)) u q) : Completes i s u q :=
  ⟨_, exec_eq_runForm i s, h.outside, h.regs, h.cyc, h.seq, h.fault, h.nmiLine, h.irqLine, h.nmiPending⟩

/-- `read` class in Immediate mode (T-IMM). -/
theorem State.runForm_imm (s : State) (op : ReadOp) (o b : Byte) (rest : List Byte) :
    Ends s (s.runForm (.read op .imm) (o :: b :: rest))
      ((s.reads [s.cpu.regs.pc]).readCycle (s.cpu.regs.pc + 1))
      (op.run { s.cpu.regs with pc := s.cpu.regs.pc + 2 } b) := by
  constructor <;> simp [State.runForm, Form.rows, readRows, immediateRows, State.runRows_cons_cons,
    State.runRows_singleton, fetchRow, State.rowCycle_of_read, State.startSeq, Cpu.endCycle,
    BitVec.add_assoc]

/-- `read` class in the other modes (the `-R` tables). -/
theorem State.runForm_read (s : State) (op : ReadOp) (m : Mode) (hm : m ≠ .imm) (bytes : List Byte)
    (hl : m.length ≤ bytes.length) :
    let w := s.operandView m bytes false
    let v := s.reads w.reads
    Ends s (s.runForm (.read op m) bytes) (v.readCycle w.ea)
      (op.run { s.cpu.regs with pc := s.cpu.regs.pc + BitVec.ofNat 16 m.length } (v.readAt w.ea)) := by
  match m, bytes, hl with
  | .imm, _, _ => exact absurd rfl hm
  | .zp, o :: b :: rest, _ | .zpX, o :: b :: rest, _ | .zpY, o :: b :: rest, _
  | .indX, o :: b :: rest, _ | .abs, o :: b :: c :: rest, _ =>
    constructor <;> simp [State.runForm, Form.rows, readRows, Mode.addressRows,
      State.runRows_cons_cons, State.runRows_singleton, fetchRow, operandRow, executeRow,
      State.rowCycle_of_read, Mode.ea, State.startSeq, Cpu.endCycle, BitVec.add_assoc,
      State.operandView, Mode.index, Mode.length]
  | .absX, o :: lo :: hi :: rest, _ =>
    have e := word_add_index lo hi s.cpu.regs.x
    cases h : carriesOut lo s.cpu.regs.x
    all_goals
      rw [h] at e
      constructor <;> simp [State.runForm, Form.rows, readRows, Mode.addressRows,
        State.runRows_cons_cons, State.runRows_singleton, fetchRow, operandRow, executeRow,
        State.rowCycle_of_read, Mode.ea, State.startSeq, Cpu.endCycle, BitVec.add_assoc,
        State.operandView, indexedView, h, Micro.addIndex, Mode.index, Micro.rawAddr,
        Micro.indexedAddr, Mode.length, ← e]
  | .absY, o :: lo :: hi :: rest, _ =>
    have e := word_add_index lo hi s.cpu.regs.y
    cases h : carriesOut lo s.cpu.regs.y
    all_goals
      rw [h] at e
      constructor <;> simp [State.runForm, Form.rows, readRows, Mode.addressRows,
        State.runRows_cons_cons, State.runRows_singleton, fetchRow, operandRow, executeRow,
        State.rowCycle_of_read, Mode.ea, State.startSeq, Cpu.endCycle, BitVec.add_assoc,
        State.operandView, indexedView, h, Micro.addIndex, Mode.index, Micro.rawAddr,
        Micro.indexedAddr, Mode.length, ← e]
  | .indY, o :: b :: rest, _ =>
    let v := s.reads [s.cpu.regs.pc, s.cpu.regs.pc + 1]
    have e := word_add_index (v.readAt (zeroPage b))
      ((v.readCycle (zeroPage b)).readAt (zeroPage (b + 1))) s.cpu.regs.y
    cases h : carriesOut (v.readAt (zeroPage b)) s.cpu.regs.y
    all_goals
      rw [h] at e
      simp [v] at e h
      constructor <;> simp [State.runForm, Form.rows, readRows, Mode.addressRows,
        State.runRows_cons_cons, State.runRows_singleton, fetchRow, operandRow, executeRow,
        State.rowCycle_of_read, Mode.ea, State.startSeq, Cpu.endCycle, BitVec.add_assoc,
        State.operandView, indexedView, h, Micro.addIndex, Mode.index, Micro.rawAddr,
        Micro.indexedAddr, Mode.length, ← e]

/-- The register a store writes does not depend on PC. -/
@[simp] theorem StoreReg.value_with_pc (q : Regs) (w : Word) (r : StoreReg) :
    StoreReg.value { q with pc := w } r = StoreReg.value q r := by cases r <;> rfl

/-- `write` class (the `-W` tables). -/
theorem State.runForm_write (s : State) (r : StoreReg) (m : Mode) (hm : m ≠ .imm) (bytes : List Byte)
    (hl : m.length ≤ bytes.length) :
    let w := s.operandView m bytes true
    let v := s.reads w.reads
    Ends s (s.runForm (.write r m) bytes) (v.writeCycle w.ea (r.value s.cpu.regs))
      { s.cpu.regs with pc := s.cpu.regs.pc + BitVec.ofNat 16 m.length } := by
  match m, bytes, hl with
  | .imm, _, _ => exact absurd rfl hm
  | .zp, o :: b :: rest, _ | .zpX, o :: b :: rest, _ | .zpY, o :: b :: rest, _
  | .indX, o :: b :: rest, _ | .abs, o :: b :: c :: rest, _ =>
    constructor <;> simp [State.runForm, Form.rows, writeRows, Mode.addressRows,
      State.runRows_cons_cons, State.runRows_singleton, fetchRow, operandRow, dummyRawRow,
      State.rowCycle_of_read, State.rowCycle_write, Mode.ea, Mode.mayCross, State.startSeq, Cpu.endCycle,
      BitVec.add_assoc, State.operandView, Mode.index, Mode.length]
  | .absX, o :: lo :: hi :: rest, _ =>
    have e := word_add_index lo hi s.cpu.regs.x
    cases h : carriesOut lo s.cpu.regs.x
    all_goals
      rw [h] at e
      constructor <;> simp [State.runForm, Form.rows, writeRows, Mode.addressRows,
      State.runRows_cons_cons, State.runRows_singleton, fetchRow, operandRow, dummyRawRow,
      State.rowCycle_of_read, State.rowCycle_write, Mode.ea, Mode.mayCross, State.startSeq, Cpu.endCycle,
      BitVec.add_assoc, State.operandView, Mode.index, Mode.length,
      indexedView, h, Micro.addIndex, Micro.rawAddr, Micro.indexedAddr, ← e]
  | .absY, o :: lo :: hi :: rest, _ =>
    have e := word_add_index lo hi s.cpu.regs.y
    cases h : carriesOut lo s.cpu.regs.y
    all_goals
      rw [h] at e
      constructor <;> simp [State.runForm, Form.rows, writeRows, Mode.addressRows,
      State.runRows_cons_cons, State.runRows_singleton, fetchRow, operandRow, dummyRawRow,
      State.rowCycle_of_read, State.rowCycle_write, Mode.ea, Mode.mayCross, State.startSeq, Cpu.endCycle,
      BitVec.add_assoc, State.operandView, Mode.index, Mode.length,
      indexedView, h, Micro.addIndex, Micro.rawAddr, Micro.indexedAddr, ← e]
  | .indY, o :: b :: rest, _ =>
    let v := s.reads [s.cpu.regs.pc, s.cpu.regs.pc + 1]
    have e := word_add_index (v.readAt (zeroPage b))
      ((v.readCycle (zeroPage b)).readAt (zeroPage (b + 1))) s.cpu.regs.y
    cases h : carriesOut (v.readAt (zeroPage b)) s.cpu.regs.y
    all_goals
      rw [h] at e
      simp [v] at e h
      constructor <;> simp [State.runForm, Form.rows, writeRows, Mode.addressRows,
      State.runRows_cons_cons, State.runRows_singleton, fetchRow, operandRow, dummyRawRow,
      State.rowCycle_of_read, State.rowCycle_write, Mode.ea, Mode.mayCross, State.startSeq, Cpu.endCycle,
      BitVec.add_assoc, State.operandView, Mode.index, Mode.length,
      indexedView, h, Micro.addIndex, Micro.rawAddr, Micro.indexedAddr, ← e]

/-- `rmw` class (the `-M` tables). -/
theorem State.runForm_rmw (s : State) (op : RmwOp) (m : Mode) (hm : m ≠ .imm) (bytes : List Byte)
    (hl : m.length ≤ bytes.length) :
    let w := s.operandView m bytes true
    let v := s.reads w.reads
    let d := v.readAt w.ea
    let o := op.run s.cpu.regs.p d
    Ends s (s.runForm (.rmw op m) bytes)
      (((v.readCycle w.ea).writeCycle w.ea d).writeCycle w.ea o.1)
      { s.cpu.regs with pc := s.cpu.regs.pc + BitVec.ofNat 16 m.length, p := o.2 } := by
  match m, bytes, hl with
  | .imm, _, _ => exact absurd rfl hm
  | .zp, o :: b :: rest, _ | .zpX, o :: b :: rest, _ | .zpY, o :: b :: rest, _
  | .indX, o :: b :: rest, _ | .abs, o :: b :: c :: rest, _ =>
    constructor <;> simp [State.runForm, Form.rows, rmwRows, Mode.addressRows,
      State.runRows_cons_cons, State.runRows_singleton, fetchRow, operandRow, dummyRawRow,
      State.rowCycle_of_read, State.rowCycle_write, Mode.ea, Mode.mayCross, State.startSeq, Cpu.endCycle,
      BitVec.add_assoc, State.operandView, Mode.index, Mode.length]
  | .absX, o :: lo :: hi :: rest, _ =>
    have e := word_add_index lo hi s.cpu.regs.x
    cases h : carriesOut lo s.cpu.regs.x
    all_goals
      rw [h] at e
      constructor <;> simp [State.runForm, Form.rows, rmwRows, Mode.addressRows,
      State.runRows_cons_cons, State.runRows_singleton, fetchRow, operandRow, dummyRawRow,
      State.rowCycle_of_read, State.rowCycle_write, Mode.ea, Mode.mayCross, State.startSeq, Cpu.endCycle,
      BitVec.add_assoc, State.operandView, Mode.index, Mode.length,
      indexedView, h, Micro.addIndex, Micro.rawAddr, Micro.indexedAddr, ← e]
  | .absY, o :: lo :: hi :: rest, _ =>
    have e := word_add_index lo hi s.cpu.regs.y
    cases h : carriesOut lo s.cpu.regs.y
    all_goals
      rw [h] at e
      constructor <;> simp [State.runForm, Form.rows, rmwRows, Mode.addressRows,
      State.runRows_cons_cons, State.runRows_singleton, fetchRow, operandRow, dummyRawRow,
      State.rowCycle_of_read, State.rowCycle_write, Mode.ea, Mode.mayCross, State.startSeq, Cpu.endCycle,
      BitVec.add_assoc, State.operandView, Mode.index, Mode.length,
      indexedView, h, Micro.addIndex, Micro.rawAddr, Micro.indexedAddr, ← e]
  | .indY, o :: b :: rest, _ =>
    let v := s.reads [s.cpu.regs.pc, s.cpu.regs.pc + 1]
    have e := word_add_index (v.readAt (zeroPage b))
      ((v.readCycle (zeroPage b)).readAt (zeroPage (b + 1))) s.cpu.regs.y
    cases h : carriesOut (v.readAt (zeroPage b)) s.cpu.regs.y
    all_goals
      rw [h] at e
      simp [v] at e h
      constructor <;> simp [State.runForm, Form.rows, rmwRows, Mode.addressRows,
      State.runRows_cons_cons, State.runRows_singleton, fetchRow, operandRow, dummyRawRow,
      State.rowCycle_of_read, State.rowCycle_write, Mode.ea, Mode.mayCross, State.startSeq, Cpu.endCycle,
      BitVec.add_assoc, State.operandView, Mode.index, Mode.length,
      indexedView, h, Micro.addIndex, Micro.rawAddr, Micro.indexedAddr, ← e]

/-- T-IMP. -/
theorem State.runForm_implied (s : State) (op : ImpliedOp) (o : Byte) (rest : List Byte) :
    Ends s (s.runForm (.implied op) (o :: rest))
      (s.reads [s.cpu.regs.pc, s.cpu.regs.pc + 1])
      (op.run { s.cpu.regs with pc := s.cpu.regs.pc + 1 }) := by
  constructor <;> simp [State.runForm, Form.rows, impliedRows, State.runRows_cons_cons,
    State.runRows_singleton, fetchRow, State.rowCycle_of_read, State.startSeq, Cpu.endCycle]

/-- Two and three pushes count S down by two and three. -/
theorem sub_one_one (a : Byte) : a - 1#8 - 1#8 = a - 2#8 := by bv_omega
theorem sub_two_one (a : Byte) : a - 2#8 - 1#8 = a - 3#8 := by bv_omega

/-- T-REL, not taken. -/
theorem State.runForm_branch_no (s : State) (k : Cond) (o off : Byte) (rest : List Byte)
    (h : k.holds s.cpu.regs.p = false) :
    Ends s (s.runForm (.branch k) (o :: off :: rest))
      (s.reads [s.cpu.regs.pc, s.cpu.regs.pc + 1])
      { s.cpu.regs with pc := s.cpu.regs.pc + 2 } := by
  constructor <;> simp [State.runForm, Form.rows, branchRows, State.runRows_cons_cons, fetchRow,
    State.rowCycle_of_read, State.startSeq, Cpu.endCycle, BitVec.add_assoc, h]

/-- T-REL, taken inside the page. -/
theorem State.runForm_branch_near (s : State) (k : Cond) (o off : Byte) (rest : List Byte)
    (h : k.holds s.cpu.regs.p = true) (hp : samePage (s.cpu.regs.pc + 2) off = true) :
    Ends s (s.runForm (.branch k) (o :: off :: rest))
      (s.reads [s.cpu.regs.pc, s.cpu.regs.pc + 1, s.cpu.regs.pc + 2])
      { s.cpu.regs with pc := branchTarget (s.cpu.regs.pc + 2) off } := by
  simp at hp
  constructor <;> simp [State.runForm, Form.rows, branchRows, State.runRows_cons_cons, fetchRow,
    State.rowCycle_of_read, State.startSeq, Cpu.endCycle, BitVec.add_assoc, h, hp]

/-- T-REL, taken to another page. -/
theorem State.runForm_branch_far (s : State) (k : Cond) (o off : Byte) (rest : List Byte)
    (h : k.holds s.cpu.regs.p = true) (hp : samePage (s.cpu.regs.pc + 2) off = false) :
    Ends s (s.runForm (.branch k) (o :: off :: rest))
      (s.reads [s.cpu.regs.pc, s.cpu.regs.pc + 1, s.cpu.regs.pc + 2,
        word (highByte (s.cpu.regs.pc + 2)) (lowByte (branchTarget (s.cpu.regs.pc + 2) off))])
      { s.cpu.regs with pc := branchTarget (s.cpu.regs.pc + 2) off } := by
  simp at hp
  constructor <;> simp [State.runForm, Form.rows, branchRows, State.runRows_cons_cons,
    State.runRows_singleton, fetchRow,
    State.rowCycle_of_read, State.startSeq, Cpu.endCycle, BitVec.add_assoc, h, hp]

/-- T-JMPABS. -/
theorem State.runForm_jmpAbs (s : State) (o lo hi : Byte) (rest : List Byte) :
    Ends s (s.runForm .jmpAbs (o :: lo :: hi :: rest))
      (s.reads [s.cpu.regs.pc, s.cpu.regs.pc + 1, s.cpu.regs.pc + 2])
      { s.cpu.regs with pc := word hi lo } := by
  constructor <;> simp [State.runForm, Form.rows, jmpAbsRows, State.runRows_cons_cons,
    State.runRows_singleton, fetchRow, operandRow, State.rowCycle_of_read, State.startSeq,
    Cpu.endCycle, BitVec.add_assoc]

/-- T-JMPIND. -/
theorem State.runForm_jmpInd (s : State) (o lo hi : Byte) (rest : List Byte) :
    let v := s.reads [s.cpu.regs.pc, s.cpu.regs.pc + 1, s.cpu.regs.pc + 2]
    let w := v.readCycle (word hi lo)
    Ends s (s.runForm .jmpInd (o :: lo :: hi :: rest)) (w.readCycle (word hi (lo + 1)))
      { s.cpu.regs with pc := word (w.readAt (word hi (lo + 1))) (v.readAt (word hi lo)) } := by
  constructor <;> simp [State.runForm, Form.rows, jmpIndRows, State.runRows_cons_cons,
    State.runRows_singleton, fetchRow, operandRow, State.rowCycle_of_read, State.startSeq,
    Cpu.endCycle, BitVec.add_assoc]

/-- T-JSR. -/
theorem State.runForm_jsr (s : State) (o lo hi : Byte) (rest : List Byte) :
    let q := s.cpu.regs
    let v := s.reads [q.pc, q.pc + 1, stackAddr q.s]
    Ends s (s.runForm .jsr (o :: lo :: hi :: rest))
      (((v.writeCycle (stackAddr q.s) (highByte (q.pc + 2))).writeCycle (stackAddr (q.s - 1))
        (lowByte (q.pc + 2))).readCycle (q.pc + 2))
      { q with pc := word hi lo, s := q.s - 2 } := by
  constructor <;> simp [State.runForm, Form.rows, jsrRows, State.runRows_cons_cons,
    State.runRows_singleton, fetchRow, operandRow, dummyStackRow, pushRow, Cpu.stk, sub_one_one,
    State.rowCycle_of_read, State.rowCycle_write, State.startSeq,
    Cpu.endCycle, BitVec.add_assoc]

/-- T-RTS. -/
theorem State.runForm_rts (s : State) (o : Byte) (rest : List Byte) :
    let q := s.cpu.regs
    let v := s.reads [q.pc, q.pc + 1, stackAddr q.s]
    let w := v.readCycle (stackAddr (q.s + 1))
    let x := w.readCycle (stackAddr (q.s + 2))
    let target := word (w.readAt (stackAddr (q.s + 2))) (v.readAt (stackAddr (q.s + 1)))
    Ends s (s.runForm .rts (o :: rest)) (x.readCycle target)
      { q with pc := target + 1, s := q.s + 2 } := by
  constructor <;> simp [State.runForm, Form.rows, rtsRows, State.runRows_cons_cons,
    State.runRows_singleton, fetchRow, dummyPcRow, dummyStackRow, pullRow, Cpu.stk,
    State.rowCycle_of_read, State.startSeq, Cpu.endCycle, BitVec.add_assoc]

/-- T-RTI: the return from an exception. -/
theorem State.runForm_rti (s : State) (o : Byte) (rest : List Byte) :
    let q := s.cpu.regs
    let v := s.reads [q.pc, q.pc + 1, stackAddr q.s]
    let w := v.readCycle (stackAddr (q.s + 1))
    let x := w.readCycle (stackAddr (q.s + 2))
    Ends s (s.runForm .rti (o :: rest)) (x.readCycle (stackAddr (q.s + 3)))
      { q with
        pc := word (x.readAt (stackAddr (q.s + 3))) (w.readAt (stackAddr (q.s + 2)))
        s := q.s + 3
        p := Flags.unpack (v.readAt (stackAddr (q.s + 1))) } := by
  constructor <;> simp [State.runForm, Form.rows, rtiRows, State.runRows_cons_cons,
    State.runRows_singleton, fetchRow, dummyPcRow, dummyStackRow, pullRow, Cpu.stk,
    State.rowCycle_of_read, State.startSeq, Cpu.endCycle, BitVec.add_assoc]

/-- The five cycles in which an exception is taken: the three pushes and the vector, seen from outside the
processor. -/
def State.entered (v : State) (sp : Byte) (pc : Word) (p : Byte) (vector : Word) : State :=
  ((((v.writeCycle (stackAddr sp) (highByte pc)).writeCycle (stackAddr (sp - 1))
    (lowByte pc)).writeCycle (stackAddr (sp - 2)) p).readCycle vector).readCycle (vector + 1)

/-- The handler's address, as the vector's two reads give it. -/
def State.handler (v : State) (sp : Byte) (pc : Word) (p : Byte) (vector : Word) : Word :=
  let x := ((v.writeCycle (stackAddr sp) (highByte pc)).writeCycle (stackAddr (sp - 1))
    (lowByte pc)).writeCycle (stackAddr (sp - 2)) p
  word ((x.readCycle vector).readAt (vector + 1)) (x.readAt vector)

/-- T-BRK. -/
theorem State.runForm_brk (s : State) (o : Byte) (rest : List Byte) :
    let q := s.cpu.regs
    let v := s.reads [q.pc, q.pc + 1]
    Ends s (s.runForm .brk (o :: rest))
      (v.entered q.s (q.pc + 2) (q.p.pack true) 0xFFFE#16)
      { q with
        pc := v.handler q.s (q.pc + 2) (q.p.pack true) 0xFFFE#16
        s := q.s - 3
        p := { q.p with i := true } } := by
  constructor <;> simp [State.runForm, Form.rows, brkRows, exceptionRows, State.runRows_cons_cons,
    State.runRows_singleton, fetchRow, pushRow, Cpu.stk, sub_one_one, sub_two_one, State.entered, State.handler,
    State.rowCycle_of_read, State.rowCycle_write, State.startSeq, Cpu.endCycle, BitVec.add_assoc]

/-- The interrupt sequence (R606); `c` is the processor with the interrupt accepted. -/
theorem State.runRows_interrupt (s : State) (k : IntKind) :
    let q := s.cpu.regs
    let v := s.reads [q.pc, q.pc]
    Ends s (State.runRows (interruptRows k) [] s)
      (v.entered q.s q.pc (q.p.pack false) (vectorOf k))
      { q with
        pc := v.handler q.s q.pc (q.p.pack false) (vectorOf k)
        s := q.s - 3
        p := { q.p with i := true } } := by
  constructor <;> simp [interruptRows, exceptionRows, State.runRows_cons_cons,
    State.runRows_singleton, dummyPcRow, pushRow, Cpu.stk, sub_one_one, sub_two_one, State.entered, State.handler,
    State.rowCycle_of_read, State.rowCycle_write, Cpu.endCycle]

/-- T-PUSH. -/
theorem State.runForm_push (s : State) (r : StackReg) (o : Byte) (rest : List Byte) :
    let q := s.cpu.regs
    Ends s (s.runForm (.push r) (o :: rest))
      ((s.reads [q.pc, q.pc + 1]).writeCycle (stackAddr q.s) (r.pushed q))
      { q with pc := q.pc + 1, s := q.s - 1 } := by
  cases r <;> constructor <;> simp [State.runForm, Form.rows, pushRows, State.runRows_cons_cons,
    State.runRows_singleton, fetchRow, dummyPcRow, pushRow, Cpu.stk, StackReg.pushed,
    State.rowCycle_of_read, State.rowCycle_write, State.startSeq, Cpu.endCycle]

/-- T-PULL. -/
theorem State.runForm_pull (s : State) (r : StackReg) (o : Byte) (rest : List Byte) :
    let q := s.cpu.regs
    let v := s.reads [q.pc, q.pc + 1, stackAddr q.s]
    Ends s (s.runForm (.pull r) (o :: rest)) (v.readCycle (stackAddr (q.s + 1)))
      (r.pulled { q with pc := q.pc + 1, s := q.s + 1 } (v.readAt (stackAddr (q.s + 1)))) := by
  constructor <;> simp [State.runForm, Form.rows, pullRows, State.runRows_cons_cons,
    State.runRows_singleton, fetchRow, dummyPcRow, dummyStackRow, pullRow, Cpu.stk,
    State.rowCycle_of_read, State.startSeq, Cpu.endCycle]

/-- The reset sequence (R703). -/
theorem State.runRows_reset (s : State) (sp : Byte) :
    let q := s.cpu.regs
    let v := s.reads [q.pc, q.pc, stackAddr (sp + 3), stackAddr (sp + 2), stackAddr (sp + 1)]
    let w := v.readCycle 0xFFFC#16
    Ends s (State.runRows (resetRows sp) [] s) (w.readCycle 0xFFFD#16)
      { q with
        pc := word (w.readAt 0xFFFD#16) (v.readAt 0xFFFC#16)
        s := sp
        p := { q.p with i := true } } := by
  constructor <;> simp [resetRows, State.runRows_cons_cons, State.runRows_singleton, dummyPcRow,
    State.rowCycle_of_read, Cpu.endCycle]

end Sys2Proof.Machine
end

