-- ==== Sys2Proof/Laws/Memory.lean ====
section
/-! SUPPORT. The laws of sparse storage: reading after writing, and that every memory operation keeps the
canonical form. -/

namespace Sys2Proof.Machine

/-! ### The canonical form -/

theorem Cells.wf_iff {w : Nat} (m : Cells w) :
    Cells.wf m = true ↔
      (m.Pairwise fun p q => p.1 < q.1) ∧ ∀ p ∈ m, p.2 ≠ Cells.unlisted w := by
  simp [Cells.wf, List.all_eq_true]

theorem Cells.wf_nil {w : Nat} : Cells.wf ([] : Cells w) = true := by simp [Cells.wf]

/-- Every entry after a write is an old one or the one written. -/
theorem Cells.mem_set {w : Nat} {m : Cells w} {k : Nat} {v : BitVec w} {p : Nat × BitVec w}
    (h : p ∈ Cells.set m k v) : p ∈ m ∨ p = (k, v) := by
  induction m with
  | nil =>
    unfold Cells.set at h
    split at h <;> simp_all
  | cons q rest ih =>
    obtain ⟨j, u⟩ := q
    unfold Cells.set at h
    split at h
    · split at h <;> grind
    · split at h
      · split at h <;> grind
      · grind

theorem Cells.wf_set {w : Nat} {m : Cells w} (h : Cells.wf m = true) (k : Nat) (v : BitVec w) :
    Cells.wf (Cells.set m k v) = true := by
  rw [Cells.wf_iff] at h ⊢
  induction m with
  | nil => unfold Cells.set; split <;> simp_all
  | cons q rest ih =>
    obtain ⟨j, u⟩ := q
    obtain ⟨hp, hv⟩ := h
    rw [List.pairwise_cons] at hp
    have ih := ih ⟨hp.2, fun p hm => hv p (List.mem_cons_of_mem _ hm)⟩
    unfold Cells.set
    split
    · split
      · exact ⟨List.pairwise_cons.2 hp, hv⟩
      · refine ⟨List.pairwise_cons.2 ⟨?_, List.pairwise_cons.2 hp⟩, ?_⟩ <;> grind
    · split
      · split
        · exact ⟨hp.2, by grind⟩
        · refine ⟨List.pairwise_cons.2 ⟨?_, hp.2⟩, ?_⟩ <;> grind
      · refine ⟨List.pairwise_cons.2 ⟨?_, ih.1⟩, ?_⟩
        · intro p hm
          rcases Cells.mem_set hm with hm | rfl
          · exact hp.1 p hm
          · show j < k; omega
        · intro p hm
          rcases List.mem_cons.1 hm with rfl | hm
          · exact hv _ (List.mem_cons_self ..)
          · exact ih.2 p hm

theorem Cells.wf_load {w : Nat} {m : Cells w} (h : Cells.wf m = true) (k : Nat) (l : List (BitVec w)) :
    Cells.wf (Cells.load m k l) = true := by
  induction l generalizing m k with
  | nil => exact h
  | cons v rest ih => exact ih (Cells.wf_set h k v) (k + 1)

/-! ### Reading after writing -/

theorem Cells.get_of_lt {w : Nat} {m : Cells w} {k : Nat} (h : ∀ p ∈ m, k < p.1) :
    Cells.get m k = Cells.unlisted w := by
  induction m with
  | nil => rfl
  | cons q rest ih =>
    obtain ⟨j, u⟩ := q
    have hj : k < j := h (j, u) (List.mem_cons_self ..)
    unfold Cells.get
    rw [if_neg (by omega)]
    exact ih fun p hp => h p (List.mem_cons_of_mem _ hp)

theorem Cells.get_set {w : Nat} {m : Cells w} (h : Cells.wf m = true) (k : Nat) (v : BitVec w) (a : Nat) :
    Cells.get (Cells.set m k v) a = if a = k then v else Cells.get m a := by
  rw [Cells.wf_iff] at h
  induction m with
  | nil =>
    unfold Cells.set
    split <;> rename_i hv
    · subst hv; simp [Cells.get]
    · simp [Cells.get]
  | cons q rest ih =>
    obtain ⟨j, u⟩ := q
    obtain ⟨hp, hv⟩ := h
    rw [List.pairwise_cons] at hp
    have ih := ih ⟨hp.2, fun p hm => hv p (List.mem_cons_of_mem _ hm)⟩
    unfold Cells.set
    split <;> rename_i h1
    · have hr : Cells.get rest k = Cells.unlisted w := Cells.get_of_lt fun p hm => by
        have := hp.1 p hm; simp only at this; omega
      split <;> rename_i h2 <;> simp only [Cells.get] <;> split <;> simp_all <;> omega
    · split <;> rename_i h2
      · subst h2
        have hr : Cells.get rest k = Cells.unlisted w := Cells.get_of_lt fun p hm => hp.1 p hm
        split <;> simp only [Cells.get] <;> split <;> simp_all
      · simp only [Cells.get]
        split <;> rename_i h3
        · subst h3; rw [if_neg (by omega)]
        · exact ih

/-- A key that no entry lists reads as unlisted. -/
theorem Cells.get_of_unlisted {w : Nat} {m : Cells w} {k : Nat} (h : ∀ p ∈ m, p.1 ≠ k) :
    Cells.get m k = Cells.unlisted w := by
  induction m with
  | nil => rfl
  | cons p rest ih =>
    obtain ⟨j, v⟩ := p
    have hj : k ≠ j := fun e => h (j, v) (List.mem_cons_self ..) e.symm
    rw [Cells.get, if_neg hj]
    exact ih fun p hp => h p (List.mem_cons_of_mem _ hp)

/-- Reading after consecutive values are put: the value of the key's place, else what was read before. -/
theorem Cells.get_load {w : Nat} {m : Cells w} (h : Cells.wf m = true) (k : Nat) (l : List (BitVec w))
    (a : Nat) :
    Cells.get (Cells.load m k l) a = if k ≤ a then l.getD (a - k) (Cells.get m a) else Cells.get m a := by
  induction l generalizing m k with
  | nil => simp [Cells.load]
  | cons v rest ih =>
    rw [Cells.load, ih (Cells.wf_set h k v), Cells.get_set h]
    rcases Nat.lt_trichotomy a k with hlt | rfl | hgt
    · rw [if_neg (by omega), if_neg (by omega), if_neg (by omega)]
    · rw [if_neg (by omega), if_pos rfl, if_pos (Nat.le_refl _), Nat.sub_self, List.getD_cons_zero]
    · rw [if_pos (by omega), if_neg (by omega), if_pos (by omega),
        show a - k = (a - (k + 1)) + 1 by omega, List.getD_cons_succ]

/-- A key outside the range filled reads as before. -/
theorem Cells.get_load_of_outside {w : Nat} {m : Cells w} (h : Cells.wf m = true) {k : Nat}
    {l : List (BitVec w)} {a : Nat} (ho : a < k ∨ k + l.length ≤ a) :
    Cells.get (Cells.load m k l) a = Cells.get m a := by
  rw [Cells.get_load h]
  split
  · exact List.getD_eq_default _ _ (by omega)
  · rfl

/-- Two canonical cell lists that read the same are equal. -/
theorem Cells.ext_get {w : Nat} {m n : Cells w} (hm : Cells.wf m = true) (hn : Cells.wf n = true)
    (h : ∀ k, Cells.get m k = Cells.get n k) : m = n := by
  rw [Cells.wf_iff] at hm hn
  induction m generalizing n with
  | nil =>
    cases n with
    | nil => rfl
    | cons q rest =>
      obtain ⟨j, u⟩ := q
      have := h j
      simp only [Cells.get, if_true] at this
      exact absurd this.symm (hn.2 _ (List.mem_cons_self ..))
  | cons p mr ih =>
    obtain ⟨i, x⟩ := p
    have hx := hm.2 _ (List.mem_cons_self ..)
    rw [List.pairwise_cons] at hm
    cases n with
    | nil =>
      have := h i
      simp only [Cells.get, if_true] at this
      exact absurd this hx
    | cons q nr =>
      obtain ⟨j, u⟩ := q
      have hu := hn.2 _ (List.mem_cons_self ..)
      rw [List.pairwise_cons] at hn
      have e1 : Cells.get mr i = Cells.unlisted w := Cells.get_of_lt fun p hp => hm.1.1 p hp
      have e2 : Cells.get nr j = Cells.unlisted w := Cells.get_of_lt fun p hp => hn.1.1 p hp
      have hij : i = j := by
        rcases Nat.lt_trichotomy i j with hl | he | hl
        · have hk := h i
          have : Cells.get nr i = Cells.unlisted w := Cells.get_of_lt fun p hp => by
            have := hn.1.1 p hp; simp only at this; omega
          simp only [Cells.get, if_true, if_neg (Nat.ne_of_lt hl), this] at hk
          exact absurd hk hx
        · exact he
        · have hk := h j
          have : Cells.get mr j = Cells.unlisted w := Cells.get_of_lt fun p hp => by
            have := hm.1.1 p hp; simp only at this; omega
          simp only [Cells.get, if_true, if_neg (Nat.ne_of_lt hl), this] at hk
          exact absurd hk.symm hu
      subst hij
      have hxu : x = u := by have := h i; simpa [Cells.get] using this
      subst hxu
      congr 1
      refine ih (n := nr) ⟨hm.1.2, fun p hp => hm.2 p (List.mem_cons_of_mem _ hp)⟩
        ⟨hn.1.2, fun p hp => hn.2 p (List.mem_cons_of_mem _ hp)⟩ fun k => ?_
      by_cases hk : k = i
      · subst hk; rw [e1, e2]
      · have := h k
        simpa [Cells.get, hk] using this

/-! ### The memory operations -/

theorem Memory.wf_memAfterWrite {s : State} (h : Memory.wf s.mem = true) (a : Word) (v : Byte) :
    Memory.wf (s.memAfterWrite a v) = true := by
  unfold State.memAfterWrite
  split
  · exact Cells.wf_set h _ _
  · exact Cells.wf_set h _ _
  · exact h

theorem Memory.wf_writeByte {s : State} (h : Memory.wf s.mem = true) (a : Word) (v : Byte) :
    Memory.wf (s.writeByte a v).mem = true := Memory.wf_memAfterWrite h a v

theorem Memory.wf_placeBytes {s : State} (h : Memory.wf s.mem = true) (a : Word) (l : List Byte) :
    Memory.wf (s.placeBytes a l) = true :=
  Cells.wf_set (Cells.wf_set (Cells.wf_set h _ _) _ _) _ _

theorem Memory.wf_loadRange {c : Config} {m : Memory} (h : Memory.wf m = true) (q : Nat × List Byte) :
    Memory.wf (loadRange c m q) = true := Cells.wf_load h _ _

theorem Memory.wf_initialMemory (c : Config) (images : List (List Byte))
    (preloads : List (Nat × List Byte)) : Memory.wf (initialMemory c images preloads) = true := by
  refine Cells.wf_load ?_ _ _
  have : ∀ (l : List (Nat × List Byte)) (m : Memory), Memory.wf m = true →
      Memory.wf (l.foldl (loadRange c) m) = true := by
    intro l
    induction l with
    | nil => exact fun m h => h
    | cons q rest ih => exact fun m h => ih _ (Memory.wf_loadRange h q)
  exact this preloads [] Cells.wf_nil

theorem Memory.wf_reset : Memory.wf State.reset.mem = true := Cells.wf_nil

/-- The cell under a CPU address after a bus write of RAM (R76). -/
theorem State.cell_writeByte_ram {s : State} (h : Memory.wf s.mem = true) {a : Word}
    (hr : (s.chipAt a).1 = .ram) (v : Byte) (b : Word) :
    (s.writeByte a v).cell b = if busAddr b = busAddr a then v else s.cell b := by
  unfold State.cell State.writeByte State.memAfterWrite
  simp only [hr]
  exact Cells.get_set h _ _ _

/-- A bus write changes no cell but the one it addresses (R76, R77). -/
theorem State.cell_writeByte_of_ne {s : State} (h : Memory.wf s.mem = true) {a b : Word}
    (hn : busAddr b ≠ busAddr a) (v : Byte) : (s.writeByte a v).cell b = s.cell b := by
  unfold State.cell State.writeByte State.memAfterWrite
  dsimp only
  split <;> first | rfl | (rw [Cells.get_set h, if_neg hn])

end Sys2Proof.Machine
end

