-- ==== Sys2Proof/Laws/Machine.lean ====
section
/-! SUPPORT. The address map's totality, what a machine cycle keeps, and induction over the cycles of a
sequence, said once. -/

namespace Sys2Proof.Machine

/-! ### The address map (R74) -/

/-- In a disjoint map the range that holds an address owns it. -/
theorem owner_of_mem {m : List Region} (hd : busMapDisjoint m = true) {r : Region} (hr : r ∈ m) {a : Nat}
    (ha : r.base ≤ a ∧ a < r.base + r.size) : owner m a = (r.chip, a - r.base) := by
  have hd : m.Pairwise fun r q => r.base + r.size ≤ q.base ∨ q.base + q.size ≤ r.base := by
    simpa [busMapDisjoint] using hd
  induction m with
  | nil => simp at hr
  | cons q rest ih =>
    rw [List.pairwise_cons] at hd
    unfold owner
    rcases List.mem_cons.1 hr with rfl | hr'
    · rw [if_pos ha]
    · have := hd.1 r hr'
      rw [if_neg (by omega)]
      exact ih (by simpa [busMapDisjoint] using hd.2) hr' hd.2

/-- Disjoint ranges inside the space whose sizes add up to it cover it (R74, R88). -/
theorem exists_region {m : List Region} (hs : busMapInSpace m = true) (hd : busMapDisjoint m = true)
    (hc : busMapCovers m = true) {a : Nat} (ha : a < 0x4000) :
    ∃ r ∈ m, r.base ≤ a ∧ a < r.base + r.size := by
  have hs : ∀ r ∈ m, r.base + r.size ≤ 0x4000 := by simpa [busMapInSpace] using hs
  have hd : m.Pairwise fun r q => r.base + r.size ≤ q.base ∨ q.base + q.size ≤ r.base := by
    simpa [busMapDisjoint] using hd
  have hc : (m.map Region.size).sum = 0x4000 := by simpa [busMapCovers] using hc
  let cover (l : List Region) : Finset Nat :=
    (Finset.range 0x4000).filter fun a => ∃ r ∈ l, r.base ≤ a ∧ a < r.base + r.size
  have hcard : ∀ l : List Region, (∀ r ∈ l, r.base + r.size ≤ 0x4000) →
      l.Pairwise (fun r q => r.base + r.size ≤ q.base ∨ q.base + q.size ≤ r.base) →
      (cover l).card = (l.map Region.size).sum := by
    intro l
    induction l with
    | nil => intros; simp [cover]
    | cons r rest ih =>
      intro hs hd
      rw [List.pairwise_cons] at hd
      have e : cover (r :: rest) = Finset.Ico r.base (r.base + r.size) ∪ cover rest := by
        ext x
        have := hs r (List.mem_cons_self ..)
        simp only [cover, Finset.mem_filter, Finset.mem_range, Finset.mem_union, Finset.mem_Ico,
          List.mem_cons, exists_eq_or_imp]
        constructor
        · rintro ⟨h, h' | h'⟩
          · exact .inl h'
          · exact .inr ⟨h, h'⟩
        · rintro (h | ⟨h, h'⟩)
          · exact ⟨by omega, .inl h⟩
          · exact ⟨h, .inr h'⟩
      have dj : Disjoint (Finset.Ico r.base (r.base + r.size)) (cover rest) := by
        rw [Finset.disjoint_left]
        intro x hx hy
        simp only [cover, Finset.mem_filter, Finset.mem_Ico] at hx hy
        obtain ⟨_, q, hq, h1, h2⟩ := hy
        have := hd.1 q hq
        omega
      rw [e, Finset.card_union_of_disjoint dj, ih (fun q hq => hs q (List.mem_cons_of_mem _ hq)) hd.2]
      simp
  have hall : cover m = Finset.range 0x4000 :=
    Finset.eq_of_subset_of_card_le (Finset.filter_subset _ _) (by rw [hcard m hs hd, hc]; simp)
  have : a ∈ cover m := by rw [hall]; simpa using ha
  exact (Finset.mem_filter.1 this).2

/-! ### What a cycle keeps -/

/-- A property that one row's machine cycle keeps, the run of a sequence keeps. -/
theorem State.runRows_keeps {P : State → Prop} (h : ∀ s r g f, P s → P (s.rowCycle r g f)) :
    ∀ (rows : List Row) (stream : List Byte) (s : State), P s → P (State.runRows rows stream s) := by
  intro rows
  induction rows with
  | nil => exact fun _ _ hp => hp
  | cons r rest ih =>
    intro stream s hp
    unfold State.runRows
    dsimp only
    generalize (if r.stream = true then stream.head? else none) = g
    by_cases hc : (s.rowCycle r g rest.isEmpty).cpu.micro.cyc = 0
    · rw [if_pos hc]; exact h _ _ _ _ hp
    · rw [if_neg hc]; exact ih _ _ (h _ _ _ _ hp)

/-- A property that a machine cycle keeps, any number of cycles keeps. -/
theorem State.cycles_keeps {P : State → Prop} (h : ∀ s, P s → P s.machineCycle) :
    ∀ (n : Nat) (s : State), P s → P (State.cycles n s) := by
  intro n
  induction n with
  | zero => exact fun _ hp => hp
  | succ n ih => exact fun s hp => ih _ (h s hp)

/-- A property that a machine cycle keeps, the run to the next boundary keeps. -/
theorem State.toBoundary_keeps {P : State → Prop} (h : ∀ s, P s → P s.machineCycle) (s : State)
    (hp : P s) : P s.toBoundary := by
  have : ∀ (n : Nat) (t : State), P t → P (State.finish n t) := by
    intro n
    induction n with
    | zero => exact fun _ hp => hp
    | succ n ih =>
      intro t hp
      unfold State.finish
      split
      · exact hp
      · exact ih _ (h t hp)
  exact this 6 _ (h s hp)

/-- The processor's part of a cycle is nothing, or one row's access and updates, from a state that differs
in the processor only. -/
theorem State.cpuStep_cases (s : State) :
    s.cpuStep = s ∨ (∃ c, s.cpuStep = s.withCpu c) ∨
      ∃ (c : Cpu) (r : Row) (f : Bool), s.cpuStep = (s.withCpu c).rowStep r none f := by
  have hb : s.beginIfBoundary = s.withCpu s.beginIfBoundary.cpu := by
    unfold State.beginIfBoundary
    split
    · rfl
    · exact (State.withCpu_self s).symm
  unfold State.cpuStep
  dsimp only
  split
  · exact .inl rfl
  · right
    split
    · rename_i r f _
      right
      exact ⟨_, r, f, by rw [← hb]⟩
    · left
      exact ⟨_, by rw [hb]; rfl⟩

/-- What a machine cycle does outside the processor: the VIC's step, then one read, one write or nothing
(R501). -/
theorem State.machineCycle_cases (s : State) :
    (∃ c, s.machineCycle = s.vicStep.withCpu c) ∨
    (∃ c a, s.machineCycle = (s.readCycle a).withCpu c) ∨
    ∃ c a v, s.machineCycle = (s.writeCycle a v).withCpu c := by
  rcases s.vicStep.cpuStep_cases with h | ⟨c, h⟩ | ⟨c, r, f, h⟩
  · exact .inl ⟨s.vicStep.cpu, by rw [State.withCpu_self, State.machineCycle, h, State.piaStep_eq]⟩
  · exact .inl ⟨c, by simp [State.machineCycle, h]⟩
  · right
    cases ha : r.access c with
    | read a =>
      left
      exact ⟨_, a, by
        simp only [State.machineCycle, h, State.rowStep, State.withCpu_cpu, ha, State.perform_read,
          State.piaStep_eq, State.afterRead_withCpu, State.withCpu_withCpu, State.readCycle]; rfl⟩
    | write a v =>
      right
      exact ⟨_, a, v, by
        simp only [State.machineCycle, h, State.rowStep, State.withCpu_cpu, ha, State.perform_write,
          State.piaStep_eq, State.writeByte_withCpu, State.withCpu_withCpu, State.writeCycle]; rfl⟩

@[simp] theorem State.machineCycle_cfg (s : State) : s.machineCycle.cfg = s.cfg := by
  rcases s.machineCycle_cases with ⟨c, h⟩ | ⟨c, a, h⟩ | ⟨c, a, v, h⟩ <;> rw [h] <;> simp

@[simp] theorem State.machineCycle_profile (s : State) : s.machineCycle.profile = s.profile := by
  rcases s.machineCycle_cases with ⟨c, h⟩ | ⟨c, a, h⟩ | ⟨c, a, v, h⟩ <;> rw [h] <;> simp

@[simp] theorem State.machineCycle_sig (s : State) : s.machineCycle.sig = s.sig := by
  rcases s.machineCycle_cases with ⟨c, h⟩ | ⟨c, a, h⟩ | ⟨c, a, v, h⟩ <;> rw [h] <;> simp

@[simp] theorem State.machineCycle_paused (s : State) : s.machineCycle.paused = s.paused := by
  rcases s.machineCycle_cases with ⟨c, h⟩ | ⟨c, a, h⟩ | ⟨c, a, v, h⟩ <;> rw [h] <;> simp

@[simp] theorem State.machineCycle_skipRender (s : State) :
    s.machineCycle.skipRender = s.skipRender := by
  rcases s.machineCycle_cases with ⟨c, h⟩ | ⟨c, a, h⟩ | ⟨c, a, v, h⟩ <;> rw [h] <;> simp

theorem Memory.wf_readCycle {s : State} (h : Memory.wf s.mem = true) (a : Word) :
    Memory.wf (s.readCycle a).mem = true := by simpa using h

theorem Memory.wf_writeCycle {s : State} (h : Memory.wf s.mem = true) (a : Word) (v : Byte) :
    Memory.wf (s.writeCycle a v).mem = true := by
  have h' : Memory.wf s.vicStep.mem = true := by simpa using h
  exact Memory.wf_writeByte h' a v

theorem Memory.wf_machineCycle {s : State} (h : Memory.wf s.mem = true) :
    Memory.wf s.machineCycle.mem = true := by
  rcases s.machineCycle_cases with ⟨c, e⟩ | ⟨c, a, e⟩ | ⟨c, a, v, e⟩ <;> rw [e]
  · simpa using h
  · exact Memory.wf_readCycle h a
  · exact Memory.wf_writeCycle h a v

end Sys2Proof.Machine
end

