-- ==== Sys2Proof/Laws/PerInstr.lean ====
section
/-! SUPPORT. One lemma per instruction: its opcode is documented, selects its form and gives its length
(R120, R127, R130, R153). -/

namespace Sys2Proof.Laws.OpcodeSelects

open Sys2Proof.Machine (formOf formOfOpcode)

/-- The opcode of `i` alone is documented and selects the form and the length of `i`. -/
def Statement (i : Instr) : Prop :=
  i.wellFormed = true ∧ documented i.opcode = true ∧ formOfOpcode i.opcode = some (formOf i) ∧
    (opcodeTable i.opcode).map Format.length = some (encode i).length

theorem brk : Statement .brk := ⟨rfl, rfl, rfl, rfl⟩
theorem oraIndX (x : Byte) : Statement (.oraIndX x) := ⟨rfl, rfl, rfl, rfl⟩
theorem oraZp (x : Byte) : Statement (.oraZp x) := ⟨rfl, rfl, rfl, rfl⟩
theorem aslZp (x : Byte) : Statement (.aslZp x) := ⟨rfl, rfl, rfl, rfl⟩
theorem php : Statement .php := ⟨rfl, rfl, rfl, rfl⟩
theorem oraImm (x : Byte) : Statement (.oraImm x) := ⟨rfl, rfl, rfl, rfl⟩
theorem aslA : Statement .aslA := ⟨rfl, rfl, rfl, rfl⟩
theorem oraAbs (x : Word) : Statement (.oraAbs x) := ⟨rfl, rfl, rfl, rfl⟩
theorem aslAbs (x : Word) : Statement (.aslAbs x) := ⟨rfl, rfl, rfl, rfl⟩
theorem bpl (x : Byte) : Statement (.bpl x) := ⟨rfl, rfl, rfl, rfl⟩
theorem oraIndY (x : Byte) : Statement (.oraIndY x) := ⟨rfl, rfl, rfl, rfl⟩
theorem oraZpX (x : Byte) : Statement (.oraZpX x) := ⟨rfl, rfl, rfl, rfl⟩
theorem aslZpX (x : Byte) : Statement (.aslZpX x) := ⟨rfl, rfl, rfl, rfl⟩
theorem clc : Statement .clc := ⟨rfl, rfl, rfl, rfl⟩
theorem oraAbsY (x : Word) : Statement (.oraAbsY x) := ⟨rfl, rfl, rfl, rfl⟩
theorem oraAbsX (x : Word) : Statement (.oraAbsX x) := ⟨rfl, rfl, rfl, rfl⟩
theorem aslAbsX (x : Word) : Statement (.aslAbsX x) := ⟨rfl, rfl, rfl, rfl⟩
theorem jsr (x : Word) : Statement (.jsr x) := ⟨rfl, rfl, rfl, rfl⟩
theorem andIndX (x : Byte) : Statement (.andIndX x) := ⟨rfl, rfl, rfl, rfl⟩
theorem bitZp (x : Byte) : Statement (.bitZp x) := ⟨rfl, rfl, rfl, rfl⟩
theorem andZp (x : Byte) : Statement (.andZp x) := ⟨rfl, rfl, rfl, rfl⟩
theorem rolZp (x : Byte) : Statement (.rolZp x) := ⟨rfl, rfl, rfl, rfl⟩
theorem plp : Statement .plp := ⟨rfl, rfl, rfl, rfl⟩
theorem andImm (x : Byte) : Statement (.andImm x) := ⟨rfl, rfl, rfl, rfl⟩
theorem rolA : Statement .rolA := ⟨rfl, rfl, rfl, rfl⟩
theorem bitAbs (x : Word) : Statement (.bitAbs x) := ⟨rfl, rfl, rfl, rfl⟩
theorem andAbs (x : Word) : Statement (.andAbs x) := ⟨rfl, rfl, rfl, rfl⟩
theorem rolAbs (x : Word) : Statement (.rolAbs x) := ⟨rfl, rfl, rfl, rfl⟩
theorem bmi (x : Byte) : Statement (.bmi x) := ⟨rfl, rfl, rfl, rfl⟩
theorem andIndY (x : Byte) : Statement (.andIndY x) := ⟨rfl, rfl, rfl, rfl⟩
theorem andZpX (x : Byte) : Statement (.andZpX x) := ⟨rfl, rfl, rfl, rfl⟩
theorem rolZpX (x : Byte) : Statement (.rolZpX x) := ⟨rfl, rfl, rfl, rfl⟩
theorem sec : Statement .sec := ⟨rfl, rfl, rfl, rfl⟩
theorem andAbsY (x : Word) : Statement (.andAbsY x) := ⟨rfl, rfl, rfl, rfl⟩
theorem andAbsX (x : Word) : Statement (.andAbsX x) := ⟨rfl, rfl, rfl, rfl⟩
theorem rolAbsX (x : Word) : Statement (.rolAbsX x) := ⟨rfl, rfl, rfl, rfl⟩
theorem rti : Statement .rti := ⟨rfl, rfl, rfl, rfl⟩
theorem eorIndX (x : Byte) : Statement (.eorIndX x) := ⟨rfl, rfl, rfl, rfl⟩
theorem eorZp (x : Byte) : Statement (.eorZp x) := ⟨rfl, rfl, rfl, rfl⟩
theorem lsrZp (x : Byte) : Statement (.lsrZp x) := ⟨rfl, rfl, rfl, rfl⟩
theorem pha : Statement .pha := ⟨rfl, rfl, rfl, rfl⟩
theorem eorImm (x : Byte) : Statement (.eorImm x) := ⟨rfl, rfl, rfl, rfl⟩
theorem lsrA : Statement .lsrA := ⟨rfl, rfl, rfl, rfl⟩
theorem jmpAbs (x : Word) : Statement (.jmpAbs x) := ⟨rfl, rfl, rfl, rfl⟩
theorem eorAbs (x : Word) : Statement (.eorAbs x) := ⟨rfl, rfl, rfl, rfl⟩
theorem lsrAbs (x : Word) : Statement (.lsrAbs x) := ⟨rfl, rfl, rfl, rfl⟩
theorem bvc (x : Byte) : Statement (.bvc x) := ⟨rfl, rfl, rfl, rfl⟩
theorem eorIndY (x : Byte) : Statement (.eorIndY x) := ⟨rfl, rfl, rfl, rfl⟩
theorem eorZpX (x : Byte) : Statement (.eorZpX x) := ⟨rfl, rfl, rfl, rfl⟩
theorem lsrZpX (x : Byte) : Statement (.lsrZpX x) := ⟨rfl, rfl, rfl, rfl⟩
theorem cli : Statement .cli := ⟨rfl, rfl, rfl, rfl⟩
theorem eorAbsY (x : Word) : Statement (.eorAbsY x) := ⟨rfl, rfl, rfl, rfl⟩
theorem eorAbsX (x : Word) : Statement (.eorAbsX x) := ⟨rfl, rfl, rfl, rfl⟩
theorem lsrAbsX (x : Word) : Statement (.lsrAbsX x) := ⟨rfl, rfl, rfl, rfl⟩
theorem rts : Statement .rts := ⟨rfl, rfl, rfl, rfl⟩
theorem adcIndX (x : Byte) : Statement (.adcIndX x) := ⟨rfl, rfl, rfl, rfl⟩
theorem adcZp (x : Byte) : Statement (.adcZp x) := ⟨rfl, rfl, rfl, rfl⟩
theorem rorZp (x : Byte) : Statement (.rorZp x) := ⟨rfl, rfl, rfl, rfl⟩
theorem pla : Statement .pla := ⟨rfl, rfl, rfl, rfl⟩
theorem adcImm (x : Byte) : Statement (.adcImm x) := ⟨rfl, rfl, rfl, rfl⟩
theorem rorA : Statement .rorA := ⟨rfl, rfl, rfl, rfl⟩
theorem jmpInd (x : Word) : Statement (.jmpInd x) := ⟨rfl, rfl, rfl, rfl⟩
theorem adcAbs (x : Word) : Statement (.adcAbs x) := ⟨rfl, rfl, rfl, rfl⟩
theorem rorAbs (x : Word) : Statement (.rorAbs x) := ⟨rfl, rfl, rfl, rfl⟩
theorem bvs (x : Byte) : Statement (.bvs x) := ⟨rfl, rfl, rfl, rfl⟩
theorem adcIndY (x : Byte) : Statement (.adcIndY x) := ⟨rfl, rfl, rfl, rfl⟩
theorem adcZpX (x : Byte) : Statement (.adcZpX x) := ⟨rfl, rfl, rfl, rfl⟩
theorem rorZpX (x : Byte) : Statement (.rorZpX x) := ⟨rfl, rfl, rfl, rfl⟩
theorem sei : Statement .sei := ⟨rfl, rfl, rfl, rfl⟩
theorem adcAbsY (x : Word) : Statement (.adcAbsY x) := ⟨rfl, rfl, rfl, rfl⟩
theorem adcAbsX (x : Word) : Statement (.adcAbsX x) := ⟨rfl, rfl, rfl, rfl⟩
theorem rorAbsX (x : Word) : Statement (.rorAbsX x) := ⟨rfl, rfl, rfl, rfl⟩
theorem staIndX (x : Byte) : Statement (.staIndX x) := ⟨rfl, rfl, rfl, rfl⟩
theorem styZp (x : Byte) : Statement (.styZp x) := ⟨rfl, rfl, rfl, rfl⟩
theorem staZp (x : Byte) : Statement (.staZp x) := ⟨rfl, rfl, rfl, rfl⟩
theorem stxZp (x : Byte) : Statement (.stxZp x) := ⟨rfl, rfl, rfl, rfl⟩
theorem dey : Statement .dey := ⟨rfl, rfl, rfl, rfl⟩
theorem txa : Statement .txa := ⟨rfl, rfl, rfl, rfl⟩
theorem styAbs (x : Word) : Statement (.styAbs x) := ⟨rfl, rfl, rfl, rfl⟩
theorem staAbs (x : Word) : Statement (.staAbs x) := ⟨rfl, rfl, rfl, rfl⟩
theorem stxAbs (x : Word) : Statement (.stxAbs x) := ⟨rfl, rfl, rfl, rfl⟩
theorem bcc (x : Byte) : Statement (.bcc x) := ⟨rfl, rfl, rfl, rfl⟩
theorem staIndY (x : Byte) : Statement (.staIndY x) := ⟨rfl, rfl, rfl, rfl⟩
theorem styZpX (x : Byte) : Statement (.styZpX x) := ⟨rfl, rfl, rfl, rfl⟩
theorem staZpX (x : Byte) : Statement (.staZpX x) := ⟨rfl, rfl, rfl, rfl⟩
theorem stxZpY (x : Byte) : Statement (.stxZpY x) := ⟨rfl, rfl, rfl, rfl⟩
theorem tya : Statement .tya := ⟨rfl, rfl, rfl, rfl⟩
theorem staAbsY (x : Word) : Statement (.staAbsY x) := ⟨rfl, rfl, rfl, rfl⟩
theorem txs : Statement .txs := ⟨rfl, rfl, rfl, rfl⟩
theorem staAbsX (x : Word) : Statement (.staAbsX x) := ⟨rfl, rfl, rfl, rfl⟩
theorem ldyImm (x : Byte) : Statement (.ldyImm x) := ⟨rfl, rfl, rfl, rfl⟩
theorem ldaIndX (x : Byte) : Statement (.ldaIndX x) := ⟨rfl, rfl, rfl, rfl⟩
theorem ldxImm (x : Byte) : Statement (.ldxImm x) := ⟨rfl, rfl, rfl, rfl⟩
theorem ldyZp (x : Byte) : Statement (.ldyZp x) := ⟨rfl, rfl, rfl, rfl⟩
theorem ldaZp (x : Byte) : Statement (.ldaZp x) := ⟨rfl, rfl, rfl, rfl⟩
theorem ldxZp (x : Byte) : Statement (.ldxZp x) := ⟨rfl, rfl, rfl, rfl⟩
theorem tay : Statement .tay := ⟨rfl, rfl, rfl, rfl⟩
theorem ldaImm (x : Byte) : Statement (.ldaImm x) := ⟨rfl, rfl, rfl, rfl⟩
theorem tax : Statement .tax := ⟨rfl, rfl, rfl, rfl⟩
theorem ldyAbs (x : Word) : Statement (.ldyAbs x) := ⟨rfl, rfl, rfl, rfl⟩
theorem ldaAbs (x : Word) : Statement (.ldaAbs x) := ⟨rfl, rfl, rfl, rfl⟩
theorem ldxAbs (x : Word) : Statement (.ldxAbs x) := ⟨rfl, rfl, rfl, rfl⟩
theorem bcs (x : Byte) : Statement (.bcs x) := ⟨rfl, rfl, rfl, rfl⟩
theorem ldaIndY (x : Byte) : Statement (.ldaIndY x) := ⟨rfl, rfl, rfl, rfl⟩
theorem ldyZpX (x : Byte) : Statement (.ldyZpX x) := ⟨rfl, rfl, rfl, rfl⟩
theorem ldaZpX (x : Byte) : Statement (.ldaZpX x) := ⟨rfl, rfl, rfl, rfl⟩
theorem ldxZpY (x : Byte) : Statement (.ldxZpY x) := ⟨rfl, rfl, rfl, rfl⟩
theorem clv : Statement .clv := ⟨rfl, rfl, rfl, rfl⟩
theorem ldaAbsY (x : Word) : Statement (.ldaAbsY x) := ⟨rfl, rfl, rfl, rfl⟩
theorem tsx : Statement .tsx := ⟨rfl, rfl, rfl, rfl⟩
theorem ldyAbsX (x : Word) : Statement (.ldyAbsX x) := ⟨rfl, rfl, rfl, rfl⟩
theorem ldaAbsX (x : Word) : Statement (.ldaAbsX x) := ⟨rfl, rfl, rfl, rfl⟩
theorem ldxAbsY (x : Word) : Statement (.ldxAbsY x) := ⟨rfl, rfl, rfl, rfl⟩
theorem cpyImm (x : Byte) : Statement (.cpyImm x) := ⟨rfl, rfl, rfl, rfl⟩
theorem cmpIndX (x : Byte) : Statement (.cmpIndX x) := ⟨rfl, rfl, rfl, rfl⟩
theorem cpyZp (x : Byte) : Statement (.cpyZp x) := ⟨rfl, rfl, rfl, rfl⟩
theorem cmpZp (x : Byte) : Statement (.cmpZp x) := ⟨rfl, rfl, rfl, rfl⟩
theorem decZp (x : Byte) : Statement (.decZp x) := ⟨rfl, rfl, rfl, rfl⟩
theorem iny : Statement .iny := ⟨rfl, rfl, rfl, rfl⟩
theorem cmpImm (x : Byte) : Statement (.cmpImm x) := ⟨rfl, rfl, rfl, rfl⟩
theorem dex : Statement .dex := ⟨rfl, rfl, rfl, rfl⟩
theorem cpyAbs (x : Word) : Statement (.cpyAbs x) := ⟨rfl, rfl, rfl, rfl⟩
theorem cmpAbs (x : Word) : Statement (.cmpAbs x) := ⟨rfl, rfl, rfl, rfl⟩
theorem decAbs (x : Word) : Statement (.decAbs x) := ⟨rfl, rfl, rfl, rfl⟩
theorem bne (x : Byte) : Statement (.bne x) := ⟨rfl, rfl, rfl, rfl⟩
theorem cmpIndY (x : Byte) : Statement (.cmpIndY x) := ⟨rfl, rfl, rfl, rfl⟩
theorem cmpZpX (x : Byte) : Statement (.cmpZpX x) := ⟨rfl, rfl, rfl, rfl⟩
theorem decZpX (x : Byte) : Statement (.decZpX x) := ⟨rfl, rfl, rfl, rfl⟩
theorem cld : Statement .cld := ⟨rfl, rfl, rfl, rfl⟩
theorem cmpAbsY (x : Word) : Statement (.cmpAbsY x) := ⟨rfl, rfl, rfl, rfl⟩
theorem cmpAbsX (x : Word) : Statement (.cmpAbsX x) := ⟨rfl, rfl, rfl, rfl⟩
theorem decAbsX (x : Word) : Statement (.decAbsX x) := ⟨rfl, rfl, rfl, rfl⟩
theorem cpxImm (x : Byte) : Statement (.cpxImm x) := ⟨rfl, rfl, rfl, rfl⟩
theorem sbcIndX (x : Byte) : Statement (.sbcIndX x) := ⟨rfl, rfl, rfl, rfl⟩
theorem cpxZp (x : Byte) : Statement (.cpxZp x) := ⟨rfl, rfl, rfl, rfl⟩
theorem sbcZp (x : Byte) : Statement (.sbcZp x) := ⟨rfl, rfl, rfl, rfl⟩
theorem incZp (x : Byte) : Statement (.incZp x) := ⟨rfl, rfl, rfl, rfl⟩
theorem inx : Statement .inx := ⟨rfl, rfl, rfl, rfl⟩
theorem sbcImm (x : Byte) : Statement (.sbcImm x) := ⟨rfl, rfl, rfl, rfl⟩
theorem nop : Statement .nop := ⟨rfl, rfl, rfl, rfl⟩
theorem cpxAbs (x : Word) : Statement (.cpxAbs x) := ⟨rfl, rfl, rfl, rfl⟩
theorem sbcAbs (x : Word) : Statement (.sbcAbs x) := ⟨rfl, rfl, rfl, rfl⟩
theorem incAbs (x : Word) : Statement (.incAbs x) := ⟨rfl, rfl, rfl, rfl⟩
theorem beq (x : Byte) : Statement (.beq x) := ⟨rfl, rfl, rfl, rfl⟩
theorem sbcIndY (x : Byte) : Statement (.sbcIndY x) := ⟨rfl, rfl, rfl, rfl⟩
theorem sbcZpX (x : Byte) : Statement (.sbcZpX x) := ⟨rfl, rfl, rfl, rfl⟩
theorem incZpX (x : Byte) : Statement (.incZpX x) := ⟨rfl, rfl, rfl, rfl⟩
theorem sed : Statement .sed := ⟨rfl, rfl, rfl, rfl⟩
theorem sbcAbsY (x : Word) : Statement (.sbcAbsY x) := ⟨rfl, rfl, rfl, rfl⟩
theorem sbcAbsX (x : Word) : Statement (.sbcAbsX x) := ⟨rfl, rfl, rfl, rfl⟩
theorem incAbsX (x : Word) : Statement (.incAbsX x) := ⟨rfl, rfl, rfl, rfl⟩

end Sys2Proof.Laws.OpcodeSelects
end

