-- ==== Sys2Proof/Laws/Raster.lean ====
section
/-! SUPPORT. The render-path step of the VIC: its bus reads, and what its advance keeps. -/

namespace Sys2Proof.Machine

/-- Bus reads in order count one draw for each address that draws. -/
theorem State.foldl_afterRead (l : List Word) (s : State) :
    l.foldl State.afterRead s = { s with draws := s.draws + (l.filter s.drawsAt).length } := by
  induction l generalizing s with
  | nil => rfl
  | cons a l ih =>
    rw [List.foldl_cons, ih, show (s.afterRead a).drawsAt = s.drawsAt from rfl, List.filter_cons]
    unfold State.afterRead
    by_cases hd : s.drawsAt a = true <;> simp [hd, Nat.add_assoc, Nat.add_comm 1]

/-- The render-path step is the fetches of the cycle, then what they give the VIC, then the advance. -/
theorem State.vicStepWithRender_eq (s : State) :
    s.vicStepWithRender =
      { s.vicFetches.foldl State.afterRead s with
        vic := s.vicRendered.advance s.cfg s.profile true } := by
  rw [State.foldl_afterRead]
  rfl

/-- Before the line end the advance only moves h on. -/
theorem Vic.advance_inside_line {w : Vic} {p : Profile} (h : w.h + 4 < p.width) (c : Config)
    (render : Bool) : w.advance c p render = { w with h := w.h + 4 } := by
  have he : w.endsLine p = false := by simp [Vic.endsLine, h]
  simp [Vic.advance, he]

@[simp] theorem Vic.frame_pixels_frameEnd (w : Vic) (k : FrameId) :
    (w.frameEnd.frame k).pixels = (w.frame k).pixels := by
  obtain ⟨_, _, _, _, _, _, _, _, _, _, _, _, _, _, _, active⟩ := w
  cases k <;> cases active <;> rfl

@[simp] theorem Vic.frame_lineAdvance (w : Vic) (c : RowAdvance) (n : Nat) (k : FrameId) :
    (w.lineAdvance c n).frame k = w.frame k := by
  cases k <;> simp [Vic.frame]

/-- The advance keeps both frames' pixels. -/
@[simp] theorem Vic.frame_pixels_advance (w : Vic) (c : Config) (p : Profile) (render : Bool)
    (k : FrameId) : ((w.advance c p render).frame k).pixels = (w.frame k).pixels := by
  unfold Vic.advance
  cases w.endsLine p <;> cases render <;> simp only [if_true, if_false, Bool.false_eq_true]
  · cases k <;> rfl
  · cases k <;> rfl
  · cases k <;> rfl
  · split
    · rw [Vic.frame_pixels_frameEnd]; cases k <;> rfl
    · rw [Vic.frame_lineAdvance]; cases k <;> rfl

/-- The advance keeps what the fetches have read. -/
theorem Vic.advance_fetched (w : Vic) (c : Config) (p : Profile) (render : Bool) :
    (w.advance c p render).cellCode = w.cellCode ∧
      (w.advance c p render).cellColour = w.cellColour ∧
      (w.advance c p render).lastFetch = w.lastFetch := by
  unfold Vic.advance
  cases w.endsLine p <;> cases render <;> simp only [if_true, if_false, Bool.false_eq_true] <;>
    (try split) <;> simp

@[simp] theorem Vic.emitAll_h (w : Vic) (n : Nat) (l : List (BitVec 4)) : (w.emitAll n l).h = w.h := by
  induction l generalizing w with
  | nil => rfl
  | cons c l ih => exact (ih _).trans (Vic.emit_h w n c)

/-- The fetches and pixels of a cycle leave the horizontal counter. -/
@[simp] theorem State.vicRendered_h (s : State) : s.vicRendered.h = s.vic.h := by
  unfold State.vicRendered
  split <;> simp [Vic.takeCode, Vic.takeChar, Vic.takeBorder]

end Sys2Proof.Machine
end

