-- ==== Sys2Proof/Laws/Run.lean ====
section
/-! SUPPORT. What ends a run: the idle loop found is one, is reached by steps, and is the first. -/

namespace Sys2Proof.Machine

@[simp] theorem State.runToIdle_of_idle {s : State} (h : s.atIdleLoop = true) (n : Nat) :
    State.runToIdle n s = some s := by
  cases n <;> simp [State.runToIdle, h]

/-- What a search for the idle loop can answer: the state itself, or what the search from the next step's
state answers. -/
theorem State.runToIdle_cases {n : Nat} {s t : State} (h : State.runToIdle n s = some t) :
    (s.atIdleLoop = true ∧ t = s) ∨
    ∃ m u, n = m + 1 ∧ s.atIdleLoop = false ∧ step s = .next u ∧ State.runToIdle m u = some t := by
  cases hs : s.atIdleLoop with
  | true => exact .inl ⟨rfl, by simpa [hs] using h.symm⟩
  | false =>
    cases n with
    | zero => simp [State.runToIdle, hs] at h
    | succ m =>
      cases hu : step s with
      | next u => exact .inr ⟨m, u, rfl, rfl, rfl, by simpa [State.runToIdle, hs, hu] using h⟩
      | fault f => simp [State.runToIdle, hs, hu] at h
      | refused r => simp [State.runToIdle, hs, hu] at h

/-- The state found is at an idle loop and is reached by steps. -/
theorem State.runToIdle_sound {n : Nat} {s t : State} (h : State.runToIdle n s = some t) :
    t.atIdleLoop = true ∧ Steps s t := by
  induction n generalizing s with
  | zero =>
    obtain ⟨hi, rfl⟩ | ⟨m, u, hm, -⟩ := State.runToIdle_cases h
    · exact ⟨hi, .refl _⟩
    · cases hm
  | succ n ih =>
    obtain ⟨hi, rfl⟩ | ⟨m, u, hm, -, hstep, hu⟩ := State.runToIdle_cases h
    · exact ⟨hi, .refl _⟩
    · cases hm
      exact ⟨(ih hu).1, .step hstep (ih hu).2⟩

/-- The end of a run does not depend on how long one looks for it. -/
theorem State.runToIdle_unique {n m : Nat} {s t u : State} (h : State.runToIdle n s = some t)
    (k : State.runToIdle m s = some u) : t = u := by
  induction n generalizing s m with
  | zero =>
    obtain ⟨hi, rfl⟩ | ⟨_, _, hm, -⟩ := State.runToIdle_cases h
    · simpa [hi] using k
    · cases hm
  | succ n ih =>
    obtain ⟨hi, rfl⟩ | ⟨_, v, hm, hs, hv, ht⟩ := State.runToIdle_cases h
    · simpa [hi] using k
    · obtain ⟨hi, -⟩ | ⟨m', w, -, -, hw, hu⟩ := State.runToIdle_cases k
      · simp [hs] at hi
      · cases hm
        cases hv.symm.trans hw
        exact ih ht hu

/-- A run has one end state. -/
theorem RunEnd.reaches_unique {e : RunEnd} {s t u : State} (h : e.reaches s t) (k : e.reaches s u) :
    t = u := by
  cases e with
  | afterCycles n => exact h.symm.trans k
  | atIdle =>
    obtain ⟨n, hn⟩ := h
    obtain ⟨m, hm⟩ := k
    exact State.runToIdle_unique hn hm

end Sys2Proof.Machine
end

