-- ==== Sys2Proof/Laws/Startup.lean ====
section
/-! SUPPORT. What initialisation answers: the checks a started machine has passed, and its memory. -/

namespace Sys2Proof.Machine

/-- A configuration has no problem exactly when every check holds. -/
theorem configProblem_eq_none_iff {c : Config} {p : Profile} {images : List (List Byte)}
    {preloads : List (Nat × List Byte)} :
    configProblem c p images preloads = none ↔
      romImagesCounted images = true ∧ romImagesSized images = true ∧
      busMapDisjoint c.busMap = true ∧
      (busMapInSpace c.busMap = true ∧ busMapCovers c.busMap = true) ∧
      (busMapWorks c = true ∧ c.buttonBit.injective = true) ∧
      preloads.all (preloadFits c.busMap) = true ∧ p.valid = true := by
  unfold configProblem
  cases romImagesCounted images <;> cases romImagesSized images <;> cases busMapDisjoint c.busMap <;>
    cases busMapInSpace c.busMap <;> cases busMapCovers c.busMap <;> cases busMapWorks c <;>
    cases c.buttonBit.injective <;> cases preloads.all (preloadFits c.busMap) <;> cases p.valid <;> decide

/-- What initialisation can answer: a refusal, or the reset machine of a configuration that has passed
every check. -/
theorem startMachine_cases (c : Config) (p : Profile) (images : List (List Byte))
    (preloads : List (Nat × List Byte)) (on : PowerOn) :
    (∃ r, configProblem c p images preloads = some r ∧
      startMachine c p images preloads on = .refused r) ∨
    (configProblem c p images preloads = none ∧
      startMachine c p images preloads on =
        .next (unresetState c p (initialMemory c images preloads) on).cpuReset) := by
  unfold startMachine
  cases configProblem c p images preloads with
  | none => exact .inr ⟨rfl, rfl⟩
  | some r => exact .inl ⟨r, rfl, rfl⟩

/-- A machine that starts has passed every check and is the reset of the machine built. -/
theorem of_startMachine_next {c : Config} {p : Profile} {images : List (List Byte)}
    {preloads : List (Nat × List Byte)} {on : PowerOn} {s : State}
    (h : startMachine c p images preloads on = .next s) :
    configProblem c p images preloads = none ∧
      s = (unresetState c p (initialMemory c images preloads) on).cpuReset := by
  obtain ⟨r, -, hr⟩ | ⟨hn, hs⟩ := startMachine_cases c p images preloads on
  · rw [hr] at h; cases h
  · rw [hs] at h; exact ⟨hn, (Host.Outcome.next.inj h).symm⟩

/-- In a map that meets R87 everything but ROM lies below bus 0x2000. -/
theorem owner_below_rom {c : Config} (h : busMapWorks c = true) {a : Nat}
    (ha : (owner c.busMap a).1 ≠ .rom) (hu : (owner c.busMap a).1 ≠ .unconnected) : a < 0x2000 := by
  unfold busMapWorks at h
  simp only [Bool.and_eq_true] at h
  have hm := h.1.1.1.1
  generalize c.busMap = m at hm ha hu
  induction m with
  | nil => exact absurd rfl hu
  | cons r rest ih =>
    simp only [List.all_cons, Bool.and_eq_true, Bool.or_eq_true, beq_iff_eq, decide_eq_true_eq] at hm
    unfold owner at ha hu
    split at ha
    · rename_i hin
      have := hm.1.resolve_left ha
      omega
    · rename_i hout
      rw [if_neg hout] at hu
      exact ih hm.2 ha hu

/-- A key below the ROM that no pre-load covers is unlisted after initialisation. -/
theorem initialMemory_get_of_outside (c : Config) (images : List (List Byte))
    (preloads : List (Nat × List Byte)) {a : Nat} (ha : a < 0x2000)
    (h : ∀ q ∈ preloads, a < q.1 ∨ q.1 + q.2.length ≤ a) :
    Cells.get (initialMemory c images preloads) a = Cells.unlisted 8 := by
  have fold : ∀ (l : List (Nat × List Byte)) (m : Memory), Memory.wf m = true →
      (∀ q ∈ l, a < q.1 ∨ q.1 + q.2.length ≤ a) →
      Memory.wf (l.foldl (loadRange c) m) = true ∧
        Cells.get (l.foldl (loadRange c) m) a = Cells.get m a := by
    intro l
    induction l with
    | nil => exact fun m hm _ => ⟨hm, rfl⟩
    | cons q rest ih =>
      intro m hm hl
      obtain ⟨hw, hg⟩ := ih (loadRange c m q) (Memory.wf_loadRange hm q)
        fun p hp => hl p (List.mem_cons_of_mem _ hp)
      refine ⟨hw, hg.trans (Cells.get_load_of_outside hm ?_)⟩
      have := hl q (List.mem_cons_self ..)
      split <;> simpa using this
  obtain ⟨hw, hg⟩ := fold preloads [] Cells.wf_nil h
  exact (Cells.get_load_of_outside hw (.inl ha)).trans hg

end Sys2Proof.Machine
end

