-- ==== Sys2Proof/Tests/Slice0.lean ====
section
/-! SUPPORT. The model's own tests: the WellFormed checks refusing ill-formed terms, decoding of words
written out from the spec's opcode table, a few single steps with results from the spec's examples, and a
witness for the hypotheses of every statement that has some. -/

set_option maxRecDepth 20000

namespace Sys2Proof.Tests

open Sys2Proof.Machine

/-! ### Well-formedness: each check refuses an ill-formed term (R74, R85, R87, R88, R436, R481, R83) -/

theorem test_instr_wellFormed : Instr.wellFormed (.brk) = true := by decide
theorem test_map_out_of_space : busMapInSpace [⟨0x3FFF, 2, .rom⟩] = false := by decide
theorem test_map_overlap : busMapDisjoint [⟨0, 0x100, .ram⟩, ⟨0xFF, 0x10, .ram⟩] = false := by decide
theorem test_map_gap : busMapCovers [⟨0, 0x3FFF, .ram⟩] = false := by decide
theorem test_rom_misplaced :
    busMapWorks { Config.reference with busMap :=
      [⟨0x0000, 0x1BEC, .ram⟩, ⟨0x1BEC, 0x0010, .vic⟩, ⟨0x1BFC, 0x0004, .pia⟩,
       ⟨0x1C00, 0x0400, .nibbleRam⟩, ⟨0x2000, 0x2000, .ram⟩] } = false := by decide
theorem test_vic_too_small :
    busMapWorks { Config.reference with busMap :=
      [⟨0x0000, 0x1BED, .ram⟩, ⟨0x1BED, 0x000F, .vic⟩, ⟨0x1BFC, 0x0004, .pia⟩,
       ⟨0x1C00, 0x0400, .nibbleRam⟩, ⟨0x2000, 0x2000, .rom⟩] } = false := by decide
theorem test_vic_missing :
    busMapWorks { Config.reference with busMap :=
      [⟨0x0000, 0x1BFC, .ram⟩, ⟨0x1BFC, 0x0004, .pia⟩, ⟨0x1C00, 0x0400, .nibbleRam⟩,
       ⟨0x2000, 0x2000, .rom⟩] } = false := by decide
theorem test_pia_too_small :
    busMapWorks { Config.reference with busMap :=
      [⟨0x0000, 0x1BED, .ram⟩, ⟨0x1BED, 0x0010, .vic⟩, ⟨0x1BFD, 0x0003, .pia⟩,
       ⟨0x1C00, 0x0400, .nibbleRam⟩, ⟨0x2000, 0x2000, .rom⟩] } = false := by decide
theorem test_pia_missing :
    busMapWorks { Config.reference with busMap :=
      [⟨0x0000, 0x1BF0, .ram⟩, ⟨0x1BF0, 0x0010, .vic⟩, ⟨0x1C00, 0x0400, .nibbleRam⟩,
       ⟨0x2000, 0x2000, .rom⟩] } = false := by decide
-- The smallest VIC and PIA ranges R87 admits.
theorem test_smallest_chips :
    busMapWorks { Config.reference with busMap :=
      [⟨0x0000, 0x1BEC, .ram⟩, ⟨0x1BEC, 0x0010, .vic⟩, ⟨0x1BFC, 0x0004, .pia⟩,
       ⟨0x1C00, 0x0400, .nibbleRam⟩, ⟨0x2000, 0x2000, .rom⟩] } = true := by decide
theorem test_colour_not_nibble :
    busMapWorks { Config.reference with colourBase := 0x0000#16 } = false := by decide
theorem test_buttons_share_a_bit :
    ButtonBits.injective { Config.reference.buttonBit with coin := 0 } = false := by decide
theorem test_profile_width : Profile.valid { Profile.test with width := 30 } = false := by decide
theorem test_profile_vblank : Profile.valid { Profile.test with vblank := 7 } = false := by decide
theorem test_image_missing : romImagesCounted (List.replicate 7 []) = false := by decide
theorem test_image_short : romImagesSized [List.replicate 3 0x00#8] = false := by decide
theorem test_preload_size :
    preloadFits Config.referenceMap (0x1C00, List.replicate 3 0x00#8) = false := by decide
theorem test_reference_is_well_formed :
    busMapInSpace Config.referenceMap = true ∧ busMapDisjoint Config.referenceMap = true ∧
      busMapCovers Config.referenceMap = true ∧ busMapWorks Config.reference = true ∧
      Config.reference.buttonBit.injective = true ∧ Profile.test.valid = true := by decide

/-! ### Decoding: the opcode of each row of the spec's opcode table, with an operand written out -/

/-- Do the bytes decode to the instruction, leaving nothing? -/
def decodesTo (p : List Byte × Instr) : Bool :=
  match decode p.1 with
  | .ok (i, []) => i == p.2
  | _ => false

theorem test_decode_control :
    List.all
    [([0x00#8], .brk), ([0x10#8, 0x80#8], .bpl 0x80#8), ([0x20#8, 0x34#8, 0xF2#8], .jsr 0xF234#16),
     ([0x30#8, 0x80#8], .bmi 0x80#8), ([0x40#8], .rti),
     ([0x4C#8, 0x34#8, 0xF2#8], .jmpAbs 0xF234#16), ([0x50#8, 0x80#8], .bvc 0x80#8),
     ([0x60#8], .rts), ([0x6C#8, 0x34#8, 0xF2#8], .jmpInd 0xF234#16),
     ([0x70#8, 0x80#8], .bvs 0x80#8), ([0x90#8, 0x80#8], .bcc 0x80#8),
     ([0xB0#8, 0x80#8], .bcs 0x80#8), ([0xD0#8, 0x80#8], .bne 0x80#8),
     ([0xF0#8, 0x80#8], .beq 0x80#8)] decodesTo = true := by decide
theorem test_decode_arithmetic_1 :
    List.all
    [([0x01#8, 0x80#8], .oraIndX 0x80#8), ([0x05#8, 0x80#8], .oraZp 0x80#8),
     ([0x09#8, 0x80#8], .oraImm 0x80#8), ([0x0D#8, 0x34#8, 0xF2#8], .oraAbs 0xF234#16),
     ([0x11#8, 0x80#8], .oraIndY 0x80#8), ([0x15#8, 0x80#8], .oraZpX 0x80#8),
     ([0x19#8, 0x34#8, 0xF2#8], .oraAbsY 0xF234#16),
     ([0x1D#8, 0x34#8, 0xF2#8], .oraAbsX 0xF234#16), ([0x21#8, 0x80#8], .andIndX 0x80#8),
     ([0x24#8, 0x80#8], .bitZp 0x80#8), ([0x25#8, 0x80#8], .andZp 0x80#8),
     ([0x29#8, 0x80#8], .andImm 0x80#8), ([0x2C#8, 0x34#8, 0xF2#8], .bitAbs 0xF234#16),
     ([0x2D#8, 0x34#8, 0xF2#8], .andAbs 0xF234#16), ([0x31#8, 0x80#8], .andIndY 0x80#8),
     ([0x35#8, 0x80#8], .andZpX 0x80#8), ([0x39#8, 0x34#8, 0xF2#8], .andAbsY 0xF234#16),
     ([0x3D#8, 0x34#8, 0xF2#8], .andAbsX 0xF234#16), ([0x41#8, 0x80#8], .eorIndX 0x80#8),
     ([0x45#8, 0x80#8], .eorZp 0x80#8), ([0x49#8, 0x80#8], .eorImm 0x80#8),
     ([0x4D#8, 0x34#8, 0xF2#8], .eorAbs 0xF234#16), ([0x51#8, 0x80#8], .eorIndY 0x80#8),
     ([0x55#8, 0x80#8], .eorZpX 0x80#8), ([0x59#8, 0x34#8, 0xF2#8], .eorAbsY 0xF234#16),
     ([0x5D#8, 0x34#8, 0xF2#8], .eorAbsX 0xF234#16), ([0x61#8, 0x80#8], .adcIndX 0x80#8),
     ([0x65#8, 0x80#8], .adcZp 0x80#8), ([0x69#8, 0x80#8], .adcImm 0x80#8),
     ([0x6D#8, 0x34#8, 0xF2#8], .adcAbs 0xF234#16)] decodesTo = true := by decide
theorem test_decode_arithmetic_2 :
    List.all
    [([0x71#8, 0x80#8], .adcIndY 0x80#8), ([0x75#8, 0x80#8], .adcZpX 0x80#8),
     ([0x79#8, 0x34#8, 0xF2#8], .adcAbsY 0xF234#16),
     ([0x7D#8, 0x34#8, 0xF2#8], .adcAbsX 0xF234#16), ([0xC0#8, 0x80#8], .cpyImm 0x80#8),
     ([0xC1#8, 0x80#8], .cmpIndX 0x80#8), ([0xC4#8, 0x80#8], .cpyZp 0x80#8),
     ([0xC5#8, 0x80#8], .cmpZp 0x80#8), ([0xC9#8, 0x80#8], .cmpImm 0x80#8),
     ([0xCC#8, 0x34#8, 0xF2#8], .cpyAbs 0xF234#16), ([0xCD#8, 0x34#8, 0xF2#8], .cmpAbs 0xF234#16),
     ([0xD1#8, 0x80#8], .cmpIndY 0x80#8), ([0xD5#8, 0x80#8], .cmpZpX 0x80#8),
     ([0xD9#8, 0x34#8, 0xF2#8], .cmpAbsY 0xF234#16),
     ([0xDD#8, 0x34#8, 0xF2#8], .cmpAbsX 0xF234#16), ([0xE0#8, 0x80#8], .cpxImm 0x80#8),
     ([0xE1#8, 0x80#8], .sbcIndX 0x80#8), ([0xE4#8, 0x80#8], .cpxZp 0x80#8),
     ([0xE5#8, 0x80#8], .sbcZp 0x80#8), ([0xE9#8, 0x80#8], .sbcImm 0x80#8),
     ([0xEC#8, 0x34#8, 0xF2#8], .cpxAbs 0xF234#16), ([0xED#8, 0x34#8, 0xF2#8], .sbcAbs 0xF234#16),
     ([0xF1#8, 0x80#8], .sbcIndY 0x80#8), ([0xF5#8, 0x80#8], .sbcZpX 0x80#8),
     ([0xF9#8, 0x34#8, 0xF2#8], .sbcAbsY 0xF234#16), ([0xFD#8, 0x34#8, 0xF2#8], .sbcAbsX 0xF234#16)] decodesTo = true := by decide
theorem test_decode_incDecShift_1 :
    List.all
    [([0x06#8, 0x80#8], .aslZp 0x80#8), ([0x0A#8], .aslA),
     ([0x0E#8, 0x34#8, 0xF2#8], .aslAbs 0xF234#16), ([0x16#8, 0x80#8], .aslZpX 0x80#8),
     ([0x1E#8, 0x34#8, 0xF2#8], .aslAbsX 0xF234#16), ([0x26#8, 0x80#8], .rolZp 0x80#8),
     ([0x2A#8], .rolA), ([0x2E#8, 0x34#8, 0xF2#8], .rolAbs 0xF234#16),
     ([0x36#8, 0x80#8], .rolZpX 0x80#8), ([0x3E#8, 0x34#8, 0xF2#8], .rolAbsX 0xF234#16),
     ([0x46#8, 0x80#8], .lsrZp 0x80#8), ([0x4A#8], .lsrA),
     ([0x4E#8, 0x34#8, 0xF2#8], .lsrAbs 0xF234#16), ([0x56#8, 0x80#8], .lsrZpX 0x80#8),
     ([0x5E#8, 0x34#8, 0xF2#8], .lsrAbsX 0xF234#16), ([0x66#8, 0x80#8], .rorZp 0x80#8),
     ([0x6A#8], .rorA), ([0x6E#8, 0x34#8, 0xF2#8], .rorAbs 0xF234#16),
     ([0x76#8, 0x80#8], .rorZpX 0x80#8), ([0x7E#8, 0x34#8, 0xF2#8], .rorAbsX 0xF234#16),
     ([0x88#8], .dey), ([0xC6#8, 0x80#8], .decZp 0x80#8), ([0xC8#8], .iny), ([0xCA#8], .dex),
     ([0xCE#8, 0x34#8, 0xF2#8], .decAbs 0xF234#16), ([0xD6#8, 0x80#8], .decZpX 0x80#8),
     ([0xDE#8, 0x34#8, 0xF2#8], .decAbsX 0xF234#16), ([0xE6#8, 0x80#8], .incZp 0x80#8),
     ([0xE8#8], .inx), ([0xEE#8, 0x34#8, 0xF2#8], .incAbs 0xF234#16)] decodesTo = true := by decide
theorem test_decode_incDecShift_2 :
    List.all
    [([0xF6#8, 0x80#8], .incZpX 0x80#8), ([0xFE#8, 0x34#8, 0xF2#8], .incAbsX 0xF234#16)] decodesTo = true := by decide
theorem test_decode_stackFlags :
    List.all
    [([0x08#8], .php), ([0x18#8], .clc), ([0x28#8], .plp), ([0x38#8], .sec), ([0x48#8], .pha),
     ([0x58#8], .cli), ([0x68#8], .pla), ([0x78#8], .sei), ([0xB8#8], .clv), ([0xD8#8], .cld),
     ([0xEA#8], .nop), ([0xF8#8], .sed)] decodesTo = true := by decide
theorem test_decode_loadStore_1 :
    List.all
    [([0x81#8, 0x80#8], .staIndX 0x80#8), ([0x84#8, 0x80#8], .styZp 0x80#8),
     ([0x85#8, 0x80#8], .staZp 0x80#8), ([0x86#8, 0x80#8], .stxZp 0x80#8), ([0x8A#8], .txa),
     ([0x8C#8, 0x34#8, 0xF2#8], .styAbs 0xF234#16), ([0x8D#8, 0x34#8, 0xF2#8], .staAbs 0xF234#16),
     ([0x8E#8, 0x34#8, 0xF2#8], .stxAbs 0xF234#16), ([0x91#8, 0x80#8], .staIndY 0x80#8),
     ([0x94#8, 0x80#8], .styZpX 0x80#8), ([0x95#8, 0x80#8], .staZpX 0x80#8),
     ([0x96#8, 0x80#8], .stxZpY 0x80#8), ([0x98#8], .tya),
     ([0x99#8, 0x34#8, 0xF2#8], .staAbsY 0xF234#16), ([0x9A#8], .txs),
     ([0x9D#8, 0x34#8, 0xF2#8], .staAbsX 0xF234#16), ([0xA0#8, 0x80#8], .ldyImm 0x80#8),
     ([0xA1#8, 0x80#8], .ldaIndX 0x80#8), ([0xA2#8, 0x80#8], .ldxImm 0x80#8),
     ([0xA4#8, 0x80#8], .ldyZp 0x80#8), ([0xA5#8, 0x80#8], .ldaZp 0x80#8),
     ([0xA6#8, 0x80#8], .ldxZp 0x80#8), ([0xA8#8], .tay), ([0xA9#8, 0x80#8], .ldaImm 0x80#8),
     ([0xAA#8], .tax), ([0xAC#8, 0x34#8, 0xF2#8], .ldyAbs 0xF234#16),
     ([0xAD#8, 0x34#8, 0xF2#8], .ldaAbs 0xF234#16), ([0xAE#8, 0x34#8, 0xF2#8], .ldxAbs 0xF234#16),
     ([0xB1#8, 0x80#8], .ldaIndY 0x80#8), ([0xB4#8, 0x80#8], .ldyZpX 0x80#8)] decodesTo = true := by decide
theorem test_decode_loadStore_2 :
    List.all
    [([0xB5#8, 0x80#8], .ldaZpX 0x80#8), ([0xB6#8, 0x80#8], .ldxZpY 0x80#8),
     ([0xB9#8, 0x34#8, 0xF2#8], .ldaAbsY 0xF234#16), ([0xBA#8], .tsx),
     ([0xBC#8, 0x34#8, 0xF2#8], .ldyAbsX 0xF234#16),
     ([0xBD#8, 0x34#8, 0xF2#8], .ldaAbsX 0xF234#16), ([0xBE#8, 0x34#8, 0xF2#8], .ldxAbsY 0xF234#16)] decodesTo = true := by decide
theorem test_undocumented_rejected :
    decode [0x02#8, 0x00#8, 0x00#8] = .error (.undocumentedOpcode 0x02#8) := by decide
theorem test_operand_missing : decode [0xAD#8, 0x00#8] = .error (.operandMissing 0xAD#8) := by decide

/-! ### Single steps, with results from the examples of the spec's rules -/

/-- The reset machine with PC at 0x0200, bytes there, cells set, and registers changed. -/
def at0200 (bytes : List Byte) (cells : List Host.Cell := []) (q : Regs → Regs := id) : State :=
  { State.reset with
    mem := cells.foldl (fun m c => Cells.set m c.1 c.2) (Cells.load [] 0x0200 bytes)
    cpu := State.reset.cpu.mapRegs fun r => q { r with pc := 0x0200#16 } }

/-- The state after a step. -/
def after (s : State) : State :=
  match step s with
  | .next t => t
  | _ => s

/-- How many machine cycles a step from h = 0 took, for the first 7 of a line. -/
def cyclesOf (s : State) : Nat := (after s).vic.h / 4

/-- The registers with all flags clear. -/
def noFlags (q : Regs) : Regs :=
  { q with p := { n := false, v := false, d := false, i := false, z := false, c := false } }

-- R200: `LDA #$80` gives A = 0x80, N = 1, Z = 0, 2 cycles.
theorem test_lda :
    let s := at0200 [0xA9#8, 0x80#8]
    let q := (after s).cpu.regs
    q.a = 0x80#8 ∧ q.p.n = true ∧ q.p.z = false ∧ q.pc = 0x0202#16 ∧ cyclesOf s = 2 := by decide
-- R201: `LDX $F0,Y` with Y = 0x20 reads 0x0010.
theorem test_ldx_wraps :
    (after (at0200 [0xB6#8, 0xF0#8] [(0x10, 0x5A#8)] ({ · with y := 0x20#8 }))).cpu.regs.x = 0x5A#8 := by
  decide
-- R202: `LDY $12FF,X` with X = 1 takes 5 cycles.
theorem test_ldy_crosses : cyclesOf (at0200 [0xBC#8, 0xFF#8, 0x12#8] [] ({ · with x := 0x01#8 })) = 5 := by
  decide
-- R203: `STA $0300` with A = 0x42.
theorem test_sta :
    (after (at0200 [0x8D#8, 0x00#8, 0x03#8] [] ({ · with a := 0x42#8 }))).cell 0x0300#16 = 0x42#8 := by
  decide
-- R204: `STX $10` with X = 5.
theorem test_stx : (after (at0200 [0x86#8, 0x10#8] [] ({ · with x := 5#8 }))).cell 0x0010#16 = 5#8 := by
  decide
-- R205: `STY $1000` with Y = 5 sets VIC register 0.
theorem test_sty_vic :
    (after (at0200 [0x8C#8, 0x00#8, 0x10#8] [] ({ · with y := 5#8 }))).vic.reg[0] = 5#8 := by decide
-- R206, R211.
theorem test_tax :
    let q := (after (at0200 [0xAA#8] [] ({ · with a := 0xFF#8 }))).cpu.regs
    q.x = 0xFF#8 ∧ q.p.n = true := by decide
theorem test_txs :
    let q := (after (at0200 [0x9A#8] [] fun q => noFlags { q with x := 0xFF#8 })).cpu.regs
    q.s = 0xFF#8 ∧ q.p.n = false := by decide
-- R234: binary and decimal.
theorem test_adc :
    let q := (after (at0200 [0x69#8, 0x22#8] []
      fun q => { noFlags q with a := 0x10#8, p := { (noFlags q).p with c := true } })).cpu.regs
    q.a = 0x33#8 ∧ q.p.c = false ∧ q.p.v = false := by decide
theorem test_adc_decimal :
    let q := (after (at0200 [0x69#8, 0x01#8] []
      fun q => { noFlags q with a := 0x99#8, p := { (noFlags q).p with d := true } })).cpu.regs
    q.a = 0x00#8 ∧ q.p.c = true ∧ q.p.z = false ∧ q.p.n = true := by decide
-- R235: 0x80 − 0x01 gives V; with D = 1, 0x00 − 0x01 gives 0x99.
theorem test_sbc :
    let q := (after (at0200 [0xE9#8, 0x01#8] []
      fun q => { noFlags q with a := 0x80#8, p := { (noFlags q).p with c := true } })).cpu.regs
    q.a = 0x7F#8 ∧ q.p.v = true := by decide
theorem test_sbc_decimal :
    let q := (after (at0200 [0xE9#8, 0x01#8] []
      fun q => { noFlags q with a := 0x00#8, p := { (noFlags q).p with c := true, d := true } })).cpu.regs
    q.a = 0x99#8 ∧ q.p.c = false := by decide
-- R236 to R238.
theorem test_and : (after (at0200 [0x29#8, 0x0F#8] [] ({ · with a := 0xF3#8 }))).cpu.regs.a = 0x03#8 := by
  decide
theorem test_ora : (after (at0200 [0x09#8, 0x80#8] [] ({ · with a := 0x01#8 }))).cpu.regs.a = 0x81#8 := by
  decide
theorem test_eor : (after (at0200 [0x49#8, 0x0F#8] [] ({ · with a := 0xFF#8 }))).cpu.regs.a = 0xF0#8 := by
  decide
-- R240: A = 0x00, data = 0x80.
theorem test_cmp :
    let p := (after (at0200 [0xC9#8, 0x80#8])).cpu.regs.p
    p.c = false ∧ p.z = false ∧ p.n = true := by decide
-- R243.
theorem test_bit :
    let p := (after (at0200 [0x24#8, 0x20#8] [(0x20, 0xC0#8)] ({ · with a := 0x01#8 }))).cpu.regs.p
    p.z = true ∧ p.n = true ∧ p.v = true := by decide
-- R260: `INC $10` of 0xFF.
theorem test_inc :
    let t := after (at0200 [0xE6#8, 0x10#8] [(0x10, 0xFF#8)])
    t.cell 0x0010#16 = 0x00#8 ∧ t.cpu.regs.p.z = true ∧ t.vic.h = 20 := by decide
-- R261: `DEC $02F0,X` takes 7 cycles.
theorem test_dec :
    let t := after (at0200 [0xDE#8, 0xF0#8, 0x02#8] [(0x0300, 0x01#8)] ({ · with x := 0x10#8 }))
    t.cell 0x0300#16 = 0x00#8 ∧ t.vic.h = 28 := by decide
-- R262.
theorem test_inx :
    let q := (after (at0200 [0xE8#8] [] ({ · with x := 0x7F#8 }))).cpu.regs
    q.x = 0x80#8 ∧ q.p.n = true := by decide
-- R266, R269.
theorem test_asl :
    let q := (after (at0200 [0x0A#8] [] ({ · with a := 0x81#8 }))).cpu.regs
    q.a = 0x02#8 ∧ q.p.c = true := by decide
theorem test_ror :
    let q := (after (at0200 [0x6A#8] [] fun q => { q with a := 0x02#8, p := { q.p with c := true } })).cpu.regs
    q.a = 0x81#8 ∧ q.p.c = false ∧ q.p.n = true := by decide
-- R291: `BCC +4` taken; R290: off = 0x80 crosses to the page below.
theorem test_bcc :
    let s := at0200 [0x90#8, 0x04#8]
    (after s).cpu.regs.pc = 0x0206#16 ∧ cyclesOf s = 3 := by decide
theorem test_bpl_crosses :
    let s := at0200 [0x10#8, 0x80#8]
    (after s).cpu.regs.pc = 0x0182#16 ∧ cyclesOf s = 4 := by decide
-- R299: the pointer wraps inside its page.
theorem test_jmp_indirect_wraps :
    (after (at0200 [0x6C#8, 0xFF#8, 0x03#8]
      [(0x0300, 0x12#8), (0x03FF, 0x34#8), (0x0400, 0x99#8)])).cpu.regs.pc = 0x1234#16 := by decide
-- R300, R301.
theorem test_jsr :
    let t := after (at0200 [0x20#8, 0x45#8, 0x23#8] [] ({ · with s := 0xFF#8 }))
    t.cell 0x01FF#16 = 0x02#8 ∧ t.cell 0x01FE#16 = 0x02#8 ∧ t.cpu.regs.s = 0xFD#8 ∧
      t.cpu.regs.pc = 0x2345#16 := by decide
theorem test_rts :
    let q := (after (at0200 [0x60#8] [(0x01FE, 0x02#8), (0x01FF, 0x20#8)] ({ · with s := 0xFD#8 }))).cpu.regs
    q.pc = 0x2003#16 ∧ q.s = 0xFF#8 := by decide
-- R302.
theorem test_rti :
    let q := (after (at0200 [0x40#8] [(0x01FD, 0xE3#8), (0x01FE, 0x00#8), (0x01FF, 0x30#8)]
      ({ · with s := 0xFC#8 }))).cpu.regs
    q.p = { n := true, v := true, d := false, i := false, z := true, c := true } ∧ q.pc = 0x3000#16 := by
  decide
-- R303, with the BRK at 0x0200.
theorem test_brk :
    let t := after (at0200 [0x00#8, 0xFF#8] [(0x3FFF, 0x30#8)] fun q => noFlags { q with s := 0xFF#8 })
    t.cell 0x01FF#16 = 0x02#8 ∧ t.cell 0x01FE#16 = 0x02#8 ∧ t.cell 0x01FD#16 = 0x30#8 ∧
      t.cpu.regs.pc = 0x3000#16 ∧ t.cpu.regs.p.i = true := by decide
-- R320 to R323.
theorem test_pha_wraps :
    let t := after (at0200 [0x48#8] [] ({ · with s := 0x00#8, a := 0x5A#8 }))
    t.cell 0x0100#16 = 0x5A#8 ∧ t.cpu.regs.s = 0xFF#8 := by decide
theorem test_php :
    (after (at0200 [0x08#8] [] fun q =>
      { noFlags q with p := { (noFlags q).p with c := true, z := true } })).cell 0x01FD#16 = 0x33#8 := by decide
theorem test_pla :
    let q := (after (at0200 [0x68#8] [(0x01FF, 0x80#8)] ({ · with s := 0xFE#8 }))).cpu.regs
    q.a = 0x80#8 ∧ q.p.n = true ∧ q.s = 0xFF#8 := by decide
theorem test_plp :
    (after (at0200 [0x28#8] [(0x01FE, 0xFF#8)])).cpu.regs.p =
      { n := true, v := true, d := true, i := true, z := true, c := true } := by decide
-- R329, R331.
theorem test_sed : (after (at0200 [0xF8#8])).cpu.regs.p.d = true := by decide
theorem test_nop : (after (at0200 [0xEA#8])).cpu.regs.pc = 0x0201#16 := by decide
-- R613: an undocumented opcode.
theorem test_illegal_opcode :
    let t := after (at0200 [0x02#8])
    t.cpu.fault = some (.illegalOpcode 0x0200#16 0x02#8) ∧ t.cpu.regs.pc = 0x0201#16 ∧ t.vic.h = 4 := by
  decide
-- R474, R478: port B in output-access mode reads the joystick signal.
theorem test_pia_joystick :
    let s := at0200 [0xAD#8, 0x02#8, 0x14#8]
    (after { s with
      sig := 0x8B#8
      pia := { s.pia with portB := { Port.reset with acc := true } } }).cpu.regs.a = 0x0B#8 := by decide
-- E2 of the spec's vectors, R77, R78: nibble RAM under both settings' mask, through a mirror.
theorem test_nibble :
    (State.reset.writeByte 0x1C05#16 0xAB#8).readByte 0x5C05#16 = 0x0B#8 := by decide
-- E3, R416: the screen and border colour register.
theorem test_colour_register :
    let w := (State.reset.writeByte 0x100F#16 0xFF#8).vic
    w.reg[15] = 0xFF#8 ∧ w.derived.backgroundColour = 15#4 ∧ w.derived.borderColour = 7#4 ∧
      w.mc[0] = 15#4 := by decide
-- R423: at the end of line 5 of the TEST profile the mirror shows 6.
theorem test_raster_mirror :
    let w := { State.reset with vic := { State.reset.vic with h := 28, v := 5 } }.vicStep.vic
    w.v = 0 ∧ w.reg[4] = 0x03#8 ∧ w.reg[3] = 0x00#8 := by decide
-- E5, R480.
theorem test_button :
    ({ State.reset with sig := 0x8F#8 }.signalReleased .fire).sig = 0x8E#8 := by decide
-- R521: a refused start.
theorem test_start_refused :
    (match startMachine Config.reference Profile.test [] [] ⟨State.reset.cpu.regs, State.reset.cpu.micro⟩ with
      | .refused .romImageMissing => true
      | _ => false) = true := by decide

-- R532: the idle loop, by both forms of JMP, and the run that ends at it.
theorem test_idle_loop :
    (at0200 [0x4C#8, 0x00#8, 0x02#8]).atIdleLoop = true ∧
      (at0200 [0x6C#8, 0x00#8, 0x03#8] [(0x0301, 0x02#8)]).atIdleLoop = true ∧
      (at0200 [0x4C#8, 0x03#8, 0x02#8]).atIdleLoop = false ∧ (at0200 [0xD0#8, 0xFE#8]).atIdleLoop = false := by
  decide
theorem test_run_ends_at_the_idle_loop :
    ((State.runToIdle 1 (at0200 [0xEA#8, 0x4C#8, 0x01#8, 0x02#8])).map fun t => t.cpu.regs.pc) =
      some 0x0201#16 := by decide
-- R9, R434, R511: the machine's own palette colours the pixels it gives out.
theorem test_palette :
    let w := State.reset.vic
    let s := { State.reset with
      cfg := { Config.reference with palette := Vector.replicate 16 0xABCDEF }
      vic := { w with frame1 := { w.frame1 with ready := true } } }
    (s.getReadyFrame.1.getD []).head? = some 0xABCDEF := by decide
-- R436, R525: the rates are reported.
theorem test_geometry :
    { State.reset with profile := Profile.ntsc ⟨0, 0, 0, 0, 0⟩ }.geometry.cycleRate = 1022727 := by decide

/-! ### Witnesses: concrete states and operands that meet the hypotheses of the statements -/

/-- The reset machine with a stopped CPU. -/
def stopped : State :=
  { State.reset with cpu := { State.reset.cpu with fault := some (.illegalOpcode 0x0000#16 0x02#8) } }

/-- The reset machine under another configuration. -/
def withCfg (c : Config) : State := { State.reset with cfg := c }

/-- The reset machine with another VIC. -/
def withVic (w : Vic) : State := { State.reset with vic := w }

/-- A map whose VIC range has more than sixteen offsets (R400, R418). -/
def wideVicMap : List Region :=
  [ ⟨0x0000, 0x1000, .ram⟩, ⟨0x1000, 0x0020, .vic⟩, ⟨0x1020, 0x03E0, .unconnected⟩,
    ⟨0x1400, 0x0004, .pia⟩, ⟨0x1404, 0x07FC, .unconnected⟩, ⟨0x1C00, 0x0400, .nibbleRam⟩,
    ⟨0x2000, 0x2000, .rom⟩ ]

-- JsrPushesItsLastByteAddress, StepRunsTheDecodedInstruction.
theorem test_witness_jsr_fetch :
    let s := at0200 [0x20#8, 0x45#8, 0x23#8]
    s.atInstr ∧ s.readAt s.cpu.regs.pc = 0x20#8 ∧ decode s.fetchBytes = .ok (.jsr 0x2345#16, []) := by
  decide
-- DecimalArithmeticIsCorrectOnDecimalDigits: the least and the greatest digits.
theorem test_witness_digits :
    ∀ b ∈ [0x00#8, 0x09#8, 0x90#8, 0x99#8], b.toNat / 16 < 10 ∧ b.toNat % 16 < 10 := by decide
-- DecodeAndEncodeAgree.
theorem test_witness_decode : decode [0x6C#8, 0xFF#8, 0x12#8, 0xEA#8] = .ok (.jmpInd 0x12FF#16, [0xEA#8]) := by
  decide
-- OpcodeAloneSelectsTheInstruction.
theorem test_witness_same_opcode : (Instr.ldaImm 0x00#8).opcode = (Instr.ldaImm 0xFF#8).opcode := by decide
theorem test_witness_nop2 :
    let s := { at0200 [0xFF#8] with cfg := { Config.reference with illegalPolicy := .nop2 } }
    s.atInstr ∧ s.cfg.illegalPolicy = .nop2 ∧ documented s.byteAtPc = false ∧
      s.byteAtPc ∈ undocumentedOpcodes := by decide
-- StepRunsTheInstructionStoredAtPc: a three-byte instruction, JSR with its stack condition.
theorem test_witness_stored :
    let s := at0200 [0x20#8, 0x45#8, 0x23#8]
    let q := s.cpu.regs
    Memory.wf s.mem = true ∧ s.atInstr ∧
    ((List.range 3).all fun k => s.storable (q.pc + BitVec.ofNat 16 k) &&
      decide (s.cell (q.pc + BitVec.ofNat 16 k) = (encode (.jsr 0x2345#16)).getD k 0x00#8)) = true ∧
    busAddr (q.pc + 2) ≠ busAddr (stackAddr q.s) ∧
    busAddr (q.pc + 2) ≠ busAddr (stackAddr (q.s - 1)) := by decide
-- StepIsTheCycleEngineToTheNextBoundary: at a boundary, and in the last cycle of a sequence.
theorem test_witness_boundary : State.reset.cpu.fault = none ∧ State.reset.cpu.micro.cyc = 0 := by decide
theorem test_witness_midway :
    let s := State.cycles 6 (at0200 [0x00#8])
    s.cpu.fault = none ∧ s.cpu.micro.cyc = 6 ∧ s.cpu.micro.cyc < s.seqRows.length := by decide
-- EveryStepKeepsTheInvariant, EveryHostOperationKeepsTheInvariant, NoInterruptOccursInThisMachine.
theorem test_witness_inv :
    (at0200 [0xEA#8]).Inv ∧ (∃ t, step (at0200 [0xEA#8]) = .next t) ∧
      (at0200 [0xEA#8]).cpu.nmiLine = false ∧ (at0200 [0xEA#8]).cpu.irqLine = false ∧
      (at0200 [0xEA#8]).cpu.nmiPending = false := ⟨by decide, ⟨_, rfl⟩, rfl, rfl, rfl⟩
-- StartedMachineMeetsTheInvariant: both values of RESET_CYCLES.
theorem start_of_no_problem {c : Config} {p : Profile} {images : List (List Byte)}
    {preloads : List (Nat × List Byte)} (h : configProblem c p images preloads = none) (on : PowerOn) :
    ∃ s, startMachine c p images preloads on = .next s := by
  unfold startMachine
  rw [h]
  exact ⟨_, rfl⟩

/-- Eight ROM images of 1,024 zero bytes. -/
def zeroImages : List (List Byte) := List.replicate 8 (List.replicate 1024 0x00#8)

/-- A pre-load of the whole nibble RAM. -/
def nibblePreload : Nat × List Byte := (0x1C00, List.replicate 1024 0x0F#8)

theorem no_problem (c : ResetCycles) :
    configProblem { Config.reference with resetCycles := c } Profile.test zeroImages [nibblePreload] =
      none := by
  have h1 : romImagesCounted zeroImages = true := by decide
  have h2 : romImagesSized zeroImages = true := by simp [romImagesSized, zeroImages]
  have h3 : preloadFits Config.referenceMap nibblePreload = true := by
    simp [preloadFits, Config.referenceMap, nibblePreload]
  have h4 : busMapDisjoint Config.referenceMap = true ∧
      (busMapInSpace Config.referenceMap && busMapCovers Config.referenceMap) = true ∧
      Profile.test.valid = true := by decide
  have h5 : (busMapWorks { Config.reference with resetCycles := c } &&
      Config.reference.buttonBit.injective) = true := by cases c <;> decide
  unfold configProblem
  rw [h1, h2, show ({ Config.reference with resetCycles := c } : Config).busMap =
      Config.referenceMap from rfl, show ({ Config.reference with resetCycles := c } : Config).buttonBit =
      Config.reference.buttonBit from rfl, h4.1, h4.2.1, h4.2.2, h5, List.all_cons, h3]
  rfl
theorem test_witness_start (c : ResetCycles) (on : PowerOn) :
    ∃ s, startMachine { Config.reference with resetCycles := c } Profile.test zeroImages [nibblePreload]
      on = .next s := start_of_no_problem (no_problem c) on
-- BadConfigurationsAreRefused: one case of each clause.
theorem test_witness_bad_images :
    ([] : List (List Byte)).length ≠ 8 ∧ ∃ m ∈ List.replicate 8 [0x00#8], m.length ≠ 1024 := by decide
theorem test_witness_bad_preload :
    ∃ q ∈ [((0 : Nat), [0x00#8])], ∀ r ∈ Config.referenceMap, r.base = q.1 → r.size ≠ q.2.length := by decide
theorem test_witness_bad_overlap :
    let m : List Region := [⟨0, 2, .ram⟩, ⟨1, 1, .ram⟩]
    ∃ (i j : Nat) (hi : i < m.length) (hj : j < m.length) (a : Nat), i ≠ j ∧
      m[i].base ≤ a ∧ a < m[i].base + m[i].size ∧ m[j].base ≤ a ∧ a < m[j].base + m[j].size :=
  ⟨0, 1, by decide, by decide, 1, by decide⟩
theorem test_witness_bad_gap :
    ∃ a, a < 0x4000 ∧ ∀ r ∈ [Region.mk 0 0x3FFF .ram], a < r.base ∨ r.base + r.size ≤ a :=
  ⟨0x3FFF, by decide⟩
theorem test_witness_bad_profile :
    30 % 4 ≠ 0 ∧ { Profile.test with width := 4 }.width < 8 ∧ { Profile.test with height := 0 }.height = 0 ∧
      { Profile.test with vblank := 7 }.height < { Profile.test with vblank := 7 }.vblank := by decide
-- LifecycleResetRestartsCpuAndPia: both values of RESET_CYCLES.
theorem test_witness_reset_cycles :
    State.reset.cfg.resetCycles = .none ∧
      (withCfg { Config.reference with resetCycles := .seven }).cfg.resetCycles = .seven := by decide
-- ResetSequenceTakesSevenCycles.
theorem test_witness_reset_due :
    let s := (withCfg { Config.reference with resetCycles := .seven }).lifecycleReset
    s.cpu.fault = none ∧ s.cpu.micro.cyc = 0 ∧ s.cpu.micro.seq = .reset := by decide
-- InterruptsAreTakenAtBoundaries: each clause.
theorem test_witness_nmi :
    let s := { State.reset with cpu := State.reset.cpu.driveNmi true }
    s.cpu.fault = none ∧ s.cpu.micro.cyc = 0 ∧ s.cpu.micro.seq ≠ .reset ∧ s.cpu.nmiPending = true := by
  decide
theorem test_witness_irq :
    let c := { State.reset.cpu with irqLine := true, regs := noFlags State.reset.cpu.regs }
    c.fault = none ∧ c.micro.cyc = 0 ∧ c.micro.seq ≠ .reset ∧ c.nmiPending = false ∧ c.irqLine = true ∧
      c.regs.p.i = false := by decide
theorem test_witness_masked :
    State.reset.cpu.nmiPending = false ∧ State.reset.cpu.irqLine = false ∧
      State.reset.cpu.regs.p.i = true := by decide
-- RtiReturnsFromTheEvent: the stack at the ends of its page.
theorem test_witness_ram_stack :
    ∀ sp ∈ [0x00#8, 0x02#8, 0xFD#8, 0xFF#8],
      let s := at0200 [0x00#8] [] ({ · with s := sp })
      Memory.wf s.mem = true ∧ (s.chipAt (stackAddr sp)).1 = .ram ∧
        (s.chipAt (stackAddr (sp - 1))).1 = .ram ∧ (s.chipAt (stackAddr (sp - 2))).1 = .ram := by decide
-- UndocumentedOpcodesFollowThePolicy: the policy fault (nop2: test_witness_nop2), first and last opcode.
theorem test_witness_fault_policy :
    ∀ b ∈ [0x02#8, 0xFF#8],
      let s := at0200 [b]
      s.atInstr ∧ s.byteAtPc ∈ undocumentedOpcodes ∧ s.cfg.illegalPolicy = .fault := by decide
-- StoppedCpuStaysWhileTheVicGoesOn.
theorem test_witness_stopped :
    stopped.cpu.fault.isSome = true ∧ stopped.profile.valid = true ∧ stopped.vic.h % 4 = 0 ∧
      stopped.vic.h < stopped.profile.width ∧ stopped.vic.v < stopped.profile.height := by decide
-- InstructionsChangeOnlyTheBytesTheyStore: a store to RAM, away from the PIA and the VIC.
theorem test_witness_store_frame :
    let s := at0200 []
    Memory.wf s.mem = true ∧ (∃ t, exec (.staAbs 0x0300#16) s = .next t) ∧
      s.storedAt (.staAbs 0x0300#16) = [0x0300#16] ∧ (s.chipAt 0x0300#16).1 ≠ .pia ∧
      (s.chipAt 0x0300#16).1 ≠ .vic ∧ busAddr 0x0300#16 ≠ busAddr 0x0301#16 :=
  ⟨by decide, ⟨_, rfl⟩, by decide, by decide, by decide, by decide⟩
-- RamReadsBackWhatWasWritten, NibbleRamKeepsFourBits, RomAndUnconnectedIgnoreWrites: the ends of the ranges.
theorem test_witness_memory :
    let s := at0200 [0xEA#8, 0x01#8]
    Memory.wf s.mem = true ∧ s.mem.length = 2 ∧ (s.chipAt 0x01FF#16).1 = .ram ∧
      (s.chipAt 0x0202#16).1 = .ram ∧ (∀ p ∈ s.mem, p.1 ≠ busAddr 0x01FF#16) ∧
      ∀ p ∈ s.mem, p.1 ≠ busAddr 0x0202#16 := by decide
theorem test_witness_started_ram (on : PowerOn) :
    ∃ s, startMachine Config.reference Profile.test zeroImages [nibblePreload] on = .next s ∧
      (s.chipAt 0x0000#16).1 = .ram ∧
      ∀ q ∈ [nibblePreload], busAddr 0x0000#16 < q.1 ∨ q.1 + q.2.length ≤ busAddr 0x0000#16 := by
  refine ⟨_, by unfold startMachine; rw [show configProblem Config.reference Profile.test zeroImages
    [nibblePreload] = none from no_problem .none], ?_, ?_⟩
  · rfl
  · simp [nibblePreload, busAddr]
theorem test_witness_ram :
    (State.reset.chipAt 0x0000#16).1 = .ram ∧ (State.reset.chipAt 0xCFFF#16).1 = .ram := by decide
theorem test_witness_nibble :
    (State.reset.chipAt 0x1C00#16).1 = .nibbleRam ∧ (State.reset.chipAt 0xDFFF#16).1 = .nibbleRam := by decide
theorem test_witness_rom :
    (State.reset.chipAt 0x2000#16).1 = .rom ∧ (State.reset.chipAt 0xFFFF#16).1 = .rom := by decide
theorem test_witness_unconnected :
    (State.reset.chipAt 0x1010#16).1 = .unconnected ∧ (State.reset.chipAt 0x1BFF#16).1 = .unconnected := by
  decide
theorem test_witness_nibble_upper :
    State.reset.cfg.nibbleUpper = .zero ∧
      (withCfg { Config.reference with nibbleUpper := .draw }).cfg.nibbleUpper = .draw := by decide
-- VicRegistersReadBackAndRecompute: offsets 0, 15, 16 and the last of a wider range.
theorem test_witness_vic_offsets :
    let s := withCfg { Config.reference with busMap := wideVicMap }
    s.chipAt 0x1000#16 = (.vic, 0) ∧ s.chipAt 0x100F#16 = (.vic, 15) ∧ s.chipAt 0x1010#16 = (.vic, 16) ∧
      s.chipAt 0x101F#16 = (.vic, 31) := by decide
-- DerivedFieldsAreThoseOfTheRegisters: the indexes 0 and 15.
theorem test_witness_base_index :
    (0 : Fin 16).val = (0x0F#8 : Byte).toNat / 16 ∧ (15 : Fin 16).val = (0xF0#8 : Byte).toNat / 16 ∧
      (15 : Fin 16).val = (0x0F#8 : Byte).toNat % 16 := by decide
-- FrameTakesItsCyclesOnBothPaths.
theorem test_witness_frame_start :
    State.reset.profile.valid = true ∧ State.reset.vic.h = 0 ∧ State.reset.vic.v = 0 ∧
      (State.reset.setSkip true).skipRender = true ∧ (State.reset.setSkip true).vic.h = 0 := by decide
-- RunUntilFrameStopsAtTheFirstFrame: the first and the last cycle of a frame.
theorem test_witness_run_frame :
    State.reset.profile.valid = true ∧
    ∀ p ∈ [(0, 0), (28, 5)], (p.1 % 4 = 0 ∧ p.1 < Profile.test.width ∧ p.2 < Profile.test.height) := by
  decide
-- RasterCountersAdvanceAndMirror, LineEndsAdvanceTheMatrixRow, FrameEndHandsTheFrameOver.
theorem test_witness_line_end :
    24 + 4 < Profile.test.width ∧ Profile.test.width ≤ 28 + 4 ∧ 4 + 1 < Profile.test.height ∧
      State.reset.skipRender = false := by decide
theorem test_witness_frame_end :
    let s := withVic { State.reset.vic with h := 28, v := 5 }
    s.skipRender = false ∧ s.completesFrame = true := by decide
-- R430, R501: a machine cycle on the render path emits the pixels of its character byte.
theorem test_render_step :
    let open1 := (State.reset.vic.write Config.reference 2 0x04#8).write Config.reference 3 0x02#8
    let w := { open1 with v := 1, fetchToggle := .charData, cellColour := 0x5#4, derived :=
      { open1.derived with backgroundColour := 0x2#4 } }
    let s := { at0200 [0xEA#8] [(0x0000, 0xA1#8)] with vic := w }
    (List.range 9).map (s.machineCycle.vic.frame0.pixels.get ·) =
      [0x5#4, 0x2#4, 0x5#4, 0x2#4, 0x2#4, 0x2#4, 0x2#4, 0x5#4, 0x0#4] := by decide
-- LineEndsAdvanceTheMatrixRow: inside and outside the window, and the last line of a row.
theorem test_witness_rows :
    let w := State.reset.vic.write Config.reference 3 0x02#8
    w.derived.screenTop ≤ 0 ∧ 0 < w.derived.screenBottom ∧ w.derived.charSize = 8 ∧
      w.derived.charSize ≤ 7 + 1 ∧ ¬ w.derived.charSize ≤ 6 + 1 ∧
      ¬ (State.reset.vic.derived.screenTop ≤ 0 ∧ 0 < State.reset.vic.derived.screenBottom) := by decide
-- RenderedCyclesFetchAndEmit: blank, both window cycles (the first and the last column), border.
theorem test_witness_cycles :
    let open1 := (State.reset.vic.write Config.reference 2 0x04#8).write Config.reference 3 0x02#8
    Cells.wf (State.reset.vic.frame State.reset.vic.active).pixels = true ∧
    State.reset.vic.v < Profile.test.vblank ∧
    State.reset.skipRender = false ∧ State.reset.vic.h + 4 < State.reset.profile.width ∧
    (∀ p ∈ [(0, 1), (28, 5)], ∀ f ∈ [FetchToggle.screenCode, FetchToggle.charData],
      let w := { open1 with h := p.1, v := p.2, fetchToggle := f }
      Profile.test.vblank ≤ w.v ∧ w.derived.screenLeft ≤ w.h ∧ w.h < w.derived.screenRight ∧
        w.derived.screenTop ≤ w.v ∧ w.v < w.derived.screenBottom) ∧
    (let w := { State.reset.vic with v := 1 }
     Profile.test.vblank ≤ w.v ∧ ¬ w.h < w.derived.screenRight) := by decide
-- ReadyFrameIsTakenOnce: a frame not ready, and one that is.
theorem test_witness_ready :
    let f := State.reset.vic.frame State.reset.vic.active.other
    f.ready = false ∧
      ((withVic { State.reset.vic with h := 28, v := 5 }).vicStep.vic.frame .zero).ready = true ∧
      (withVic { State.reset.vic with h := 28, v := 5 }).vicStep.vic.active.other = .zero := by decide
-- PiaRegistersFollowTheirAccessMode: each of the four offsets.
theorem test_witness_pia :
    State.reset.chipAt 0x1400#16 = (.pia, 0) ∧ State.reset.chipAt 0x1401#16 = (.pia, 1) ∧
      State.reset.chipAt 0x1402#16 = (.pia, 2) ∧ State.reset.chipAt 0x1403#16 = (.pia, 3) := by decide

end Sys2Proof.Tests
end

section
/-! The byte form of the status register (R35). -/

namespace Sys2Proof.Machine

/-- The packed byte as its bits appended one by one from N down to C (R35), the form in which the
library's `concat` lemmas give its number and each of its bits. -/
theorem Flags.pack_eq_concat (p : Flags) (brk : Bool) :
    p.pack brk =
      (((((((BitVec.ofBool p.n).concat p.v).concat true).concat brk).concat p.d).concat p.i).concat
        p.z).concat p.c := rfl

theorem Flags.toNat_pack (p : Flags) (brk : Bool) :
    (p.pack brk).toNat = p.n.toNat * 128 + p.v.toNat * 64 + 32 + brk.toNat * 16 + p.d.toNat * 8 +
      p.i.toNat * 4 + p.z.toNat * 2 + p.c.toNat := by
  rw [Flags.pack_eq_concat]
  simp only [BitVec.toNat_concat, BitVec.toNat_ofBool, Bool.toNat_true]
  omega

/-- A pull restores the six flags that a push stored, whatever the break bit (R35). -/
@[simp] theorem Flags.unpack_pack (p : Flags) (brk : Bool) : Flags.unpack (p.pack brk) = p := by
  simp only [Flags.unpack, Flags.pack_eq_concat, BitVec.getLsbD_concat_succ,
    BitVec.getLsbD_concat_zero, BitVec.getLsbD_ofBool, decide_true, Bool.true_and]

/-- Settles O25: the number and the round trip from the packed byte's bits, the bits taken by
`unpack` from its definition. -/
theorem statusBytePacksSixFlags : Obligations.StatusBytePacksSixFlags :=
  ⟨fun p brk => ⟨p.toNat_pack brk, p.unpack_pack brk⟩, fun _ => rfl⟩

end Sys2Proof.Machine
end

section
/-! Mirrors of the bus space (R71) and RAM (R76). -/

namespace Sys2Proof.Machine

/-! ### Every bus operation sees its address only through the bus address (R71) -/

/-- An offset that is a whole number of bus spaces leads to a mirror. -/
theorem busAddr_add_of_busAddr_eq_zero (a : Word) {m : Word} (hm : busAddr m = 0) :
    busAddr (a + m) = busAddr a := by
  rw [busAddr_eq_mod] at hm
  rw [busAddr_eq_mod, busAddr_eq_mod, BitVec.toNat_add]
  omega

theorem State.chipAt_eq_of_busAddr_eq (s : State) {a b : Word} (h : busAddr b = busAddr a) :
    s.chipAt b = s.chipAt a := congrArg (owner s.cfg.busMap) h

theorem State.cell_eq_of_busAddr_eq (s : State) {a b : Word} (h : busAddr b = busAddr a) :
    s.cell b = s.cell a := congrArg (Cells.get s.mem) h

theorem State.readByte_eq_of_busAddr_eq (s : State) {a b : Word} (h : busAddr b = busAddr a) :
    s.readByte b = s.readByte a := by
  simp only [State.readByte, s.chipAt_eq_of_busAddr_eq h, s.cell_eq_of_busAddr_eq h]

theorem State.drawsAt_eq_of_busAddr_eq (s : State) {a b : Word} (h : busAddr b = busAddr a) :
    s.drawsAt b = s.drawsAt a := by
  unfold State.drawsAt
  rw [s.chipAt_eq_of_busAddr_eq h]

theorem State.afterRead_eq_of_busAddr_eq (s : State) {a b : Word} (h : busAddr b = busAddr a) :
    s.afterRead b = s.afterRead a := by
  simp only [State.afterRead, s.drawsAt_eq_of_busAddr_eq h]

theorem State.writeByte_eq_of_busAddr_eq (s : State) {a b : Word} (h : busAddr b = busAddr a)
    (v : Byte) : s.writeByte b v = s.writeByte a v := by
  simp only [State.writeByte, State.memAfterWrite, State.vicAfterWrite, State.piaAfterWrite,
    s.chipAt_eq_of_busAddr_eq h, h]

/-- Settles O45: the three offsets are multiples of the bus space, and a read, a write and the draw
of a read depend on the bus address only. -/
theorem addressesMirrorModulo14Bits : Obligations.AddressesMirrorModulo14Bits := by
  intro s a v
  refine ⟨busAddr_eq_mod a, fun m hm => ?_⟩
  have offsets : ∀ m ∈ [0x4000#16, 0x8000#16, 0xC000#16], busAddr m = 0 := by simp [busAddr]
  have mirror : busAddr (a + m) = busAddr a := busAddr_add_of_busAddr_eq_zero a (offsets m hm)
  exact ⟨s.readByte_eq_of_busAddr_eq mirror, s.writeByte_eq_of_busAddr_eq mirror v,
    s.afterRead_eq_of_busAddr_eq mirror⟩

/-! ### RAM (R76) -/

@[simp] theorem State.chipAt_writeByte (s : State) (a : Word) (v : Byte) (b : Word) :
    (s.writeByte a v).chipAt b = s.chipAt b := rfl

theorem State.readByte_of_ram {s : State} {a : Word} (h : (s.chipAt a).1 = .ram) :
    s.readByte a = s.cell a := by
  obtain ⟨o, ho⟩ : ∃ o, s.chipAt a = (.ram, o) := ⟨_, Prod.ext h rfl⟩
  simp only [State.readByte, ho]

theorem State.afterRead_of_ram {s : State} {a : Word} (h : (s.chipAt a).1 = .ram) :
    s.afterRead a = s := by
  simp only [State.afterRead, State.drawsAt, h, Bool.false_eq_true, if_false]

/-- A write to RAM reaches the memory only, not the VIC and not the PIA (R70, R76). -/
theorem State.writeByte_of_ram {s : State} {a : Word} (h : (s.chipAt a).1 = .ram) (v : Byte) :
    s.writeByte a v = { s with mem := Cells.set s.mem (busAddr a) v } := by
  obtain ⟨o, ho⟩ : ∃ o, s.chipAt a = (.ram, o) := ⟨_, Prod.ext h rfl⟩
  simp only [State.writeByte, State.memAfterWrite, State.vicAfterWrite, State.piaAfterWrite, ho]

/-- Of the memory a bus read sees only the cell under its address. -/
theorem State.readByte_withMem {s : State} {m : Memory} {b : Word}
    (h : Cells.get m (busAddr b) = s.cell b) : ({ s with mem := m } : State).readByte b = s.readByte b := by
  have hc : ({ s with mem := m } : State).cell b = s.cell b := h
  simp only [State.readByte, hc]
  rfl

theorem State.readByte_writeByte_ram {s : State} (hw : Memory.wf s.mem = true) {a : Word}
    (h : (s.chipAt a).1 = .ram) (v : Byte) (b : Word) :
    (s.writeByte a v).readByte b = if busAddr b = busAddr a then v else s.readByte b := by
  have hcell := State.cell_writeByte_ram hw h v b
  split <;> rename_i hb
  · have hram : ((s.writeByte a v).chipAt b).1 = .ram := by
      rw [State.chipAt_writeByte, s.chipAt_eq_of_busAddr_eq hb, h]
    rw [State.readByte_of_ram hram, hcell, if_pos hb]
  · rw [if_neg hb] at hcell
    rw [State.writeByte_of_ram h] at hcell ⊢
    exact State.readByte_withMem hcell

theorem State.readByte_of_ram_unlisted {s : State} {a : Word} (h : (s.chipAt a).1 = .ram)
    (hu : ∀ p ∈ s.mem, p.1 ≠ busAddr a) : s.readByte a = 0x00#8 :=
  (State.readByte_of_ram h).trans (Cells.get_of_unlisted hu)

/-- In a started machine a cell outside ROM, in connected space, that no pre-load covers holds 0
(R76, R83, R520): ROM images lie above it. -/
theorem State.cell_of_startMachine_outside {c : Config} {p : Profile} {images : List (List Byte)}
    {preloads : List (Nat × List Byte)} {on : PowerOn} {s : State}
    (hs : startMachine c p images preloads on = .next s) {a : Word}
    (hrom : (s.chipAt a).1 ≠ .rom) (hconn : (s.chipAt a).1 ≠ .unconnected)
    (hout : ∀ q ∈ preloads, busAddr a < q.1 ∨ q.1 + q.2.length ≤ busAddr a) : s.cell a = 0x00#8 := by
  obtain ⟨hnone, rfl⟩ := of_startMachine_next hs
  obtain ⟨-, -, -, -, ⟨hmap, -⟩, -⟩ := configProblem_eq_none_iff.1 hnone
  simp only [State.chipAt, State.cell, State.cpuReset_cfg, State.cpuReset_mem] at hrom hconn ⊢
  exact initialMemory_get_of_outside c images preloads (owner_below_rom hmap hrom hconn) hout

/-- Settles O46: read after write from the cell rule of RAM and the frame of its write; the initial
zeros from the memory's default and from what initialisation lists. -/
theorem ramReadsBackWhatWasWritten : Obligations.RamReadsBackWhatWasWritten := by
  refine ⟨fun s a v hw h => ⟨State.afterRead_of_ram h, State.readByte_writeByte_ram hw h v⟩,
    fun s a => State.readByte_of_ram_unlisted, fun c p images preloads on s a hs h hout => ?_⟩
  rw [State.readByte_of_ram h]
  exact State.cell_of_startMachine_outside hs (by simp [h]) (by simp [h]) hout

end Sys2Proof.Machine
end

section
/-! What the opcode byte alone fixes (R120, R130), and the step at an undocumented one (R128). -/

namespace Sys2Proof

open Sys2Proof.Machine

theorem Format.length_bounds (f : Format) : 1 ≤ f.length ∧ f.length ≤ 3 := by
  cases f <;> simp [Format.length]

/-- The opcode alone gives the number of bytes that the encoder writes (R130). -/
theorem opcodeTable_opcode_length (i : Instr) :
    (opcodeTable i.opcode).map Format.length = some (encode i).length := by
  cases i <;> rfl

theorem formOf_eq_of_opcode_eq {i j : Instr} (h : i.opcode = j.opcode) : formOf i = formOf j :=
  Option.some.inj <| by rw [← formOfOpcode_opcode, ← formOfOpcode_opcode, h]

theorem encode_length_eq_of_opcode_eq {i j : Instr} (h : i.opcode = j.opcode) :
    (encode i).length = (encode j).length :=
  Option.some.inj <| by rw [← opcodeTable_opcode_length, ← opcodeTable_opcode_length, h]

theorem encode_length_bounds (i : Instr) : 1 ≤ (encode i).length ∧ (encode i).length ≤ 3 := by
  obtain ⟨f, -, hf⟩ := Option.map_eq_some_iff.1 (opcodeTable_opcode_length i)
  exact hf ▸ f.length_bounds

/-- An undocumented opcode decodes to no instruction, whatever bytes follow it (R128). -/
theorem decode_of_undocumented {op : Byte} (h : documented op = false) (rest : List Byte) :
    decode (op :: rest) = .error (.undocumentedOpcode op) := by
  have hnone : opcodeTable op = none := by simpa [documented] using h
  simp only [decode, hnone]

end Sys2Proof

namespace Sys2Proof.Machine

/-- At an undocumented opcode a step does what the policy says (R128, R613). -/
theorem step_of_undocumented {s : State} (ha : s.atInstr) (hd : documented s.byteAtPc = false) :
    step s = .next (s.takeIllegal s.byteAtPc) := by
  obtain ⟨hfault, hcyc, hseq⟩ := ha
  have hdecode : decode s.fetchBytes = .error (.undocumentedOpcode s.byteAtPc) :=
    decode_of_undocumented hd _
  simp [step, hfault, hcyc, hseq, hdecode, State.runUndecoded]

/-- Under `nop2` an undocumented opcode runs the cycle table of NOP (R128). -/
theorem State.takeIllegal_nop2 {s : State} (hp : s.cfg.illegalPolicy = .nop2) (op : Byte) :
    s.takeIllegal op = s.runForm (.implied .nop) [op] := by
  simp only [State.takeIllegal, hp]
  rfl

/-- Settles O27: form and length are functions of the opcode, the length that of the opcode's format;
an undocumented opcode under `nop2` runs NOP's cycle table, which moves PC on by its one byte. -/
theorem opcodeAloneSelectsTheInstruction : Obligations.OpcodeAloneSelectsTheInstruction := by
  refine ⟨fun i j h => ⟨formOf_eq_of_opcode_eq h, encode_length_eq_of_opcode_eq h⟩,
    encode_length_bounds, fun s ha hp hd => ⟨_, step_of_undocumented ha hd, ?_⟩⟩
  rw [State.takeIllegal_nop2 hp, (s.runForm_implied .nop s.byteAtPc []).regs]
  rfl

end Sys2Proof.Machine
end

section
/-! What the instructions of each access class do, from the row of the rule that states them
(R154, R167): opcode, addressing mode and cycles. -/

namespace Sys2Proof.Machine

/-! ### Instruction lengths -/

/-- The length of an instruction as its form gives it (R130). -/
def Form.length : Form → Nat
  | .read _ m | .write _ m | .rmw _ m => m.length
  | .jmpAbs | .jmpInd | .jsr => 3
  | .branch _ => 2
  | .implied _ | .rts | .rti | .brk | .push _ | .pull _ => 1

theorem length_encode (i : Instr) : (encode i).length = (formOf i).length := by
  cases i <;> rfl

theorem Regs.past_eq (q : Regs) (i : Instr) :
    q.past i = { q with pc := q.pc + BitVec.ofNat 16 (formOf i).length } := by
  rw [Regs.past, length_encode]

/-! ### Cycle counts -/

/-- The base cycles of the `read` class in an addressing mode (R169 to R176). -/
def Mode.cycles : Mode → Nat
  | .imm => 2
  | .zp => 3
  | .zpX | .zpY | .abs | .absX | .absY => 4
  | .indY => 5
  | .indX => 6

theorem length_reads_indexedView (pre : List Word) (base : Word) (idx : Byte) (always : Bool) :
    (indexedView pre base idx always).reads.length =
      pre.length + ((indexedView pre base idx always).crossed || always).toNat := by
  unfold indexedView
  cases carriesOut (lowByte base) idx <;> cases always <;> simp

/-- In the `read` class crossing a page takes one cycle more (R173, R175, R176). -/
theorem State.operandView_cycles_read (s : State) (m : Mode) (bytes : List Byte) :
    (s.operandView m bytes false).reads.length + 1 =
      m.cycles + (s.operandView m bytes false).crossed.toNat := by
  cases m
  case imm | zp | zpX | zpY | abs | indX => rfl
  case absX | absY | indY =>
    simp only [State.operandView, length_reads_indexedView, Bool.or_false, Mode.cycles,
      List.length_cons, List.length_nil]
    omega

/-- In the `write` and `rmw` classes a mode that may cross a page always takes that cycle
(R173, R175). -/
theorem State.operandView_cycles_always (s : State) (m : Mode) (bytes : List Byte) :
    (s.operandView m bytes true).reads.length + 1 = m.cycles + m.mayCross.toNat := by
  cases m
  case imm | zp | zpX | zpY | abs | indX => rfl
  case absX | absY | indY =>
    simp only [State.operandView, length_reads_indexedView, Bool.or_true, Mode.cycles,
      Mode.mayCross, List.length_cons, List.length_nil, Bool.toNat_true]

/-! ### Rows of the rules -/

/-- The row states the opcode, the form and the base cycles of a `read`-class instruction. -/
def RuleRow.IsRead (r : RuleRow) (op : ReadOp) : Prop :=
  formOf r.i = .read op r.mode ∧ r.i.opcode = r.opcode ∧ r.mode.cycles = r.cycles

/-- The row states the opcode, the form and the cycles of a `write`-class instruction. -/
def RuleRow.IsWrite (r : RuleRow) (g : StoreReg) : Prop :=
  formOf r.i = .write g r.mode ∧ r.i.opcode = r.opcode ∧
    r.mode.cycles + r.mode.mayCross.toNat = r.cycles

/-- The `read` class: in Immediate mode the operand is the instruction's own byte, in the other modes
the byte at the effective address; the operation's effect on the registers is that of `op`. -/
theorem ReadResult.of_isRead {r : RuleRow} {op : ReadOp} (h : r.IsRead op) (s : State) :
    ReadResult s r fun q d => op.run q d := by
  obtain ⟨hform, hop, hcyc⟩ := h
  have hlen : (encode r.i).length = r.mode.length := by rw [length_encode, hform]; rfl
  refine ⟨hop, hcyc ▸ s.operandView_cycles_read r.mode (encode r.i), ?_⟩
  apply Ends.completes
  rw [Regs.past_eq, hform]
  by_cases himm : r.mode = .imm
  · rw [himm] at hlen ⊢
    obtain ⟨o, b, hbytes⟩ := List.length_eq_two.1 hlen
    rw [hbytes]
    exact s.runForm_imm op o b []
  · rw [if_neg himm]
    exact s.runForm_read op r.mode himm (encode r.i) hlen.ge

/-- No store has Immediate mode (R127). -/
theorem mode_ne_imm_of_write {i : Instr} {g : StoreReg} {m : Mode} (h : formOf i = .write g m) :
    m ≠ .imm := by
  rintro rfl
  cases i <;> cases h

/-- The `write` class: the register `g` at the effective address, and PC past the instruction. -/
theorem WriteResult.of_isWrite {r : RuleRow} {g : StoreReg} (h : r.IsWrite g) (s : State) :
    WriteResult s r fun q => g.value q := by
  obtain ⟨hform, hop, hcyc⟩ := h
  have hlen : (encode r.i).length = r.mode.length := by rw [length_encode, hform]; rfl
  refine ⟨hop, hcyc ▸ s.operandView_cycles_always r.mode (encode r.i), ?_⟩
  apply Ends.completes
  rw [Regs.past_eq, hform]
  exact s.runForm_write g r.mode (mode_ne_imm_of_write hform) (encode r.i) hlen.ge

/-- T-IMP: two reads, and the operation on the registers with PC past the one byte. -/
theorem ImpliedResult.of_form {i : Instr} {op : ImpliedOp} (h : formOf i = .implied op) (s : State) :
    ImpliedResult s i i.opcode fun q => op.run q := by
  have hlen : (encode i).length = 1 := by rw [length_encode, h]; rfl
  obtain ⟨o, hbytes⟩ := List.length_eq_one_iff.1 hlen
  refine ⟨rfl, Ends.completes ?_⟩
  rw [Regs.past_eq, h, hbytes]
  exact s.runForm_implied op o []

end Sys2Proof.Machine
end

section
/-! Loads, stores and register transfers (R200 to R211). -/

namespace Sys2Proof.Machine

/-- Settles O1: every row is a row of LDA, whose operation is `Regs.setA`. -/
theorem ldaLoadsItsOperand : Obligations.LdaLoadsItsOperand := by
  intro s b w r hr
  have hrow : r.IsRead .lda := by
    fin_cases hr <;> exact ⟨rfl, rfl, rfl⟩
  exact .of_isRead hrow s

/-- Settles O2: every row is a row of LDX or of LDY. -/
theorem ldxAndLdyLoadTheirOperand : Obligations.LdxAndLdyLoadTheirOperand := by
  intro s b w
  refine ⟨fun r hr => .of_isRead (op := .ldx) ?_ s, fun r hr => .of_isRead (op := .ldy) ?_ s⟩
  all_goals
    fin_cases hr <;> exact ⟨rfl, rfl, rfl⟩

/-- Settles O3: every row is a row of a store of A, X or Y. -/
theorem storesWriteTheirRegister : Obligations.StoresWriteTheirRegister := by
  intro s b w
  refine ⟨fun r hr => .of_isWrite (g := .a) ?_ s, fun r hr => .of_isWrite (g := .x) ?_ s,
    fun r hr => .of_isWrite (g := .y) ?_ s⟩
  all_goals
    fin_cases hr <;> exact ⟨rfl, rfl, rfl⟩

/-- Settles O4: each is an instruction of T-IMP, and its operation copies the register. -/
theorem transfersCopyTheirSource : Obligations.TransfersCopyTheirSource := fun s =>
  ⟨.of_form (op := .tax) rfl s, .of_form (op := .tay) rfl s, .of_form (op := .txa) rfl s,
    .of_form (op := .tya) rfl s, .of_form (op := .tsx) rfl s, .of_form (op := .txs) rfl s⟩

end Sys2Proof.Machine
end

section
/-! The arithmetic, logic, compare and test instructions of the `read` class (R234 to R243). -/

namespace Sys2Proof.Machine

/-- Settles O5: every row is a row of ADC, whose operation is `Regs.adc`. -/
theorem adcAddsWithCarry : Obligations.AdcAddsWithCarry := by
  intro s b w r hr
  have hrow : r.IsRead .adc := by
    fin_cases hr <;> exact ⟨rfl, rfl, rfl⟩
  exact .of_isRead hrow s

/-- Settles O6: every row is a row of SBC, whose operation is `Regs.sbc`. -/
theorem sbcSubtractsWithBorrow : Obligations.SbcSubtractsWithBorrow := by
  intro s b w r hr
  have hrow : r.IsRead .sbc := by
    fin_cases hr <;> exact ⟨rfl, rfl, rfl⟩
  exact .of_isRead hrow s

/-- Settles O7: every row is a row of AND, of ORA or of EOR. -/
theorem logicCombinesIntoTheAccumulator : Obligations.LogicCombinesIntoTheAccumulator := by
  intro s b w
  refine ⟨fun r hr => .of_isRead (op := .and) ?_ s, fun r hr => .of_isRead (op := .ora) ?_ s,
    fun r hr => .of_isRead (op := .eor) ?_ s⟩
  all_goals
    fin_cases hr <;> exact ⟨rfl, rfl, rfl⟩

/-- Settles O8: every row is a row of CMP, of CPX or of CPY, whose flags are those of
`Flags.compare`. -/
theorem comparesSetCarryZeroNegative : Obligations.ComparesSetCarryZeroNegative := by
  intro s b w
  refine ⟨fun r hr => .of_isRead (op := .cmp) ?_ s, fun r hr => .of_isRead (op := .cpx) ?_ s,
    fun r hr => .of_isRead (op := .cpy) ?_ s⟩
  all_goals
    fin_cases hr <;> exact ⟨rfl, rfl, rfl⟩

/-- Settles O9: both rows are rows of BIT, whose flags are those of `Flags.bitTest`. -/
theorem bitTestsMemory : Obligations.BitTestsMemory := by
  intro s b w r hr
  have hrow : r.IsRead .bit := by
    fin_cases hr <;> exact ⟨rfl, rfl, rfl⟩
  exact .of_isRead hrow s

end Sys2Proof.Machine
end

section
/-! Binary and decimal arithmetic (R230 to R233). -/

namespace Sys2Proof.Machine

/-! ### Bytes of numbers -/

theorem getLsbD_seven_eq_decide (b : Byte) : b.getLsbD 7 = decide (128 ≤ b.toNat) :=
  BitVec.msb_eq_decide b

theorem getLsbD_seven_ofNat (n : Nat) : (BitVec.ofNat 8 n).getLsbD 7 = n.testBit 7 := by
  rw [BitVec.getLsbD_ofNat, decide_eq_true (by decide : 7 < 8), Bool.true_and]

theorem toNat_ofInt_byte (n : Int) : ((BitVec.ofInt 8 n).toNat : Int) = n % 256 := by
  rw [BitVec.toNat_ofInt]
  omega

theorem toNat_complement (m : Byte) : (m ^^^ 0xFF#8).toNat = 255 - m.toNat := by
  rw [show 0xFF#8 = BitVec.allOnes 8 from rfl, BitVec.xor_allOnes, BitVec.toNat_not]

theorem toInt_complement (m : Byte) : (m ^^^ 0xFF#8).toInt = -m.toInt - 1 := by
  have hm := m.isLt
  rw [BitVec.toInt_eq_toNat_cond, BitVec.toInt_eq_toNat_cond, toNat_complement]
  omega

/-! ### Binary addition (R230) -/

theorem toNat_addBin_r (a m : Byte) (c : Bool) :
    (addBin a m c).r.toNat = (a.toNat + m.toNat + c.toNat) % 256 := BitVec.toNat_ofNat ..

/-- Overflow: the sign of the result differs from the signs of both operands. -/
theorem addBin_v_iff_signs (a m : Byte) (c : Bool) :
    (addBin a m c).v = true ↔
      ¬(128 ≤ a.toNat ↔ 128 ≤ (addBin a m c).r.toNat) ∧
        ¬(128 ≤ m.toNat ↔ 128 ≤ (addBin a m c).r.toNat) := by
  have hbits : (addBin a m c).v =
      ((a.getLsbD 7 ^^ (addBin a m c).r.getLsbD 7) &&
        (m.getLsbD 7 ^^ (addBin a m c).r.getLsbD 7)) := by
    simp only [addBin, BitVec.getLsbD_and, BitVec.getLsbD_xor]
  simp only [hbits, getLsbD_seven_eq_decide, Bool.and_eq_true, Bool.xor_iff_ne, ne_eq,
    decide_eq_decide]

/-- The signs say that the signed sum is not the number of a signed byte. -/
theorem addBin_v (a m : Byte) (c : Bool) :
    (addBin a m c).v =
      decide (a.toInt + m.toInt + (c.toNat : Int) < -128 ∨
        127 < a.toInt + m.toInt + (c.toNat : Int)) := by
  have ha := a.isLt
  have hm := m.isLt
  have hc := c.toNat_lt
  rw [Bool.eq_iff_iff, decide_eq_true_iff, addBin_v_iff_signs, toNat_addBin_r,
    BitVec.toInt_eq_toNat_cond, BitVec.toInt_eq_toNat_cond]
  omega

/-! ### Binary subtraction (R232) -/

theorem ofInt_sub_eq_ofNat_add_complement (a m : Byte) (c : Bool) :
    BitVec.ofInt 8 ((a.toNat : Int) - m.toNat - (1 - c.toNat)) =
      BitVec.ofNat 8 (a.toNat + (m ^^^ 0xFF#8).toNat + c.toNat) := by
  have hm := m.isLt
  have hr := toNat_ofInt_byte ((a.toNat : Int) - m.toNat - (1 - c.toNat))
  apply BitVec.eq_of_toNat_eq
  rw [BitVec.toNat_ofNat, toNat_complement]
  omega

theorem no_borrow_iff_carry_complement (a m : Byte) (c : Bool) :
    0 ≤ (a.toNat : Int) - m.toNat - (1 - c.toNat) ↔
      0xFF < a.toNat + (m ^^^ 0xFF#8).toNat + c.toNat := by
  have hm := m.isLt
  rw [toNat_complement]
  omega

/-- Signs that differ for a subtraction agree for the addition of the complement. -/
theorem getLsbD_seven_overflow_complement (a m r : Byte) :
    ((a ^^^ m) &&& (a ^^^ r)).getLsbD 7 = ((a ^^^ r) &&& (m ^^^ 0xFF#8 ^^^ r)).getLsbD 7 := by
  have hbool : ∀ x y z : Bool, ((x ^^ y) && (x ^^ z)) = ((x ^^ z) && (y ^^ true ^^ z)) := by decide
  simp only [BitVec.getLsbD_and, BitVec.getLsbD_xor]
  exact hbool ..

theorem subBin_eq_addBin_complement (a m : Byte) (c : Bool) :
    subBin a m c = addBin a (m ^^^ 0xFF#8) c := by
  simp only [subBin, addBin, ofInt_sub_eq_ofNat_add_complement, no_borrow_iff_carry_complement,
    getLsbD_seven_overflow_complement]

/-- Settles O22: an addition from its result and its overflow, a subtraction as the addition of the
complement. -/
theorem binaryArithmeticIsExact : Obligations.BinaryArithmeticIsExact := by
  intro a m c sum signedSum diff signedDiff
  refine ⟨⟨toNat_addBin_r a m c, rfl, addBin_v a m c, rfl, rfl⟩,
    ⟨toNat_ofInt_byte diff, rfl, ?_, rfl, rfl⟩, subBin_eq_addBin_complement a m c⟩
  have hsum : a.toInt + (m ^^^ 0xFF#8).toInt + (c.toNat : Int) = signedDiff := by
    rw [toInt_complement]
    omega
  rw [subBin_eq_addBin_complement, addBin_v, hsum]

/-! ### Decimal arithmetic (R231, R233) -/

theorem and_lowDigitMask (n : Nat) : n &&& 0x0F = n % 16 := Nat.and_two_pow_sub_one_eq_mod n 4

theorem and_byteMask (n : Nat) : n &&& 0xFF = n % 256 := Nat.and_two_pow_sub_one_eq_mod n 8

theorem and_highDigitMask {n : Nat} (h : n < 256) : n &&& 0xF0 = n / 16 * 16 := by
  have hdiv : (n &&& 0xF0) / 16 = n / 16 % 16 :=
    (Nat.and_div_two_pow (n := 4)).trans (and_lowDigitMask _)
  have hmod : (n &&& 0xF0) % 16 = 0 := (Nat.and_mod_two_pow (n := 4)).trans (Nat.and_zero _)
  omega

/-- `T` of `add_dec` (R231): the sum of the high digits and the adjusted sum of the low digits. -/
def decSum (a m : Byte) (c : Bool) : Nat :=
  let low := a.toNat % 16 + m.toNat % 16 + c.toNat
  a.toNat / 16 * 16 + m.toNat / 16 * 16 + if 0x0A ≤ low then (low + 0x06) % 16 + 0x10 else low

theorem addDec_n (a m : Byte) (c : Bool) : (addDec a m c).n = (decSum a m c).testBit 7 :=
  getLsbD_seven_ofNat _

theorem addDec_v (a m : Byte) (c : Bool) :
    (addDec a m c).v =
      ((a.getLsbD 7 == m.getLsbD 7) && (a.getLsbD 7 != (decSum a m c).testBit 7)) := by
  have hbits : (addDec a m c).v =
      (!(a.getLsbD 7 ^^ m.getLsbD 7) && (a.getLsbD 7 ^^ (addDec a m c).n)) := by
    simp only [addDec, BitVec.getLsbD_and, BitVec.getLsbD_not, BitVec.getLsbD_xor]
    rfl
  have hbool : ∀ x y z : Bool, (!(x ^^ y) && (x ^^ z)) = ((x == y) && (x != z)) := by decide
  rw [hbits, hbool, addDec_n]

/-- Settles O23: the masks of the pseudocode are quotients and remainders by 16 and 256, and bit 7 of
`T` is that of its low byte. -/
theorem decimalArithmeticFollowsItsTables : Obligations.DecimalArithmeticFollowsItsTables := by
  intro a m c
  simp only [and_lowDigitMask, and_byteMask, and_highDigitMask a.isLt, and_highDigitMask m.isLt]
  exact ⟨⟨BitVec.toNat_ofNat .., rfl, addDec_n a m c, addDec_v a m c, rfl⟩, toNat_ofInt_byte _,
    rfl, rfl, rfl, rfl⟩

end Sys2Proof.Machine
end

section
/-! Increment, decrement, shift and rotate (R260 to R269). -/

namespace Sys2Proof.Machine

/-! ### The `rmw` class -/

/-- The row states the opcode, the form and the cycles of an `rmw`-class instruction: the write-back and
the write of the result follow the read of the operand (R168). -/
def RuleRow.IsRmw (r : RuleRow) (op : RmwOp) : Prop :=
  formOf r.i = .rmw op r.mode ∧ r.i.opcode = r.opcode ∧
    r.mode.cycles + r.mode.mayCross.toNat + 2 = r.cycles

/-- No read-modify-write instruction has Immediate mode (R127). -/
theorem mode_ne_imm_of_rmw {i : Instr} {op : RmwOp} {m : Mode} (h : formOf i = .rmw op m) :
    m ≠ .imm := by
  rintro rfl
  cases i <;> cases h

/-- The `rmw` class: the byte at the effective address and the flags are changed as `op` changes them. -/
theorem RmwResult.of_isRmw {r : RuleRow} {op : RmwOp} (h : r.IsRmw op) (s : State) :
    RmwResult s r fun p d => op.run p d := by
  obtain ⟨hform, hop, hcyc⟩ := h
  have hlen : (encode r.i).length = r.mode.length := by rw [length_encode, hform]; rfl
  refine ⟨hop, hcyc ▸ congrArg (· + 2) (s.operandView_cycles_always r.mode (encode r.i)), ?_⟩
  apply Ends.completes
  rw [Regs.past_eq, hform]
  exact s.runForm_rmw op r.mode (mode_ne_imm_of_rmw hform) (encode r.i) hlen.ge

/-! ### The flags of a right shift -/

/-- N after LSR (R267). -/
theorem getLsbD_seven_shiftRight_one (d : Byte) : (d >>> 1).getLsbD 7 = false := by
  simp

/-- N after ROR (R269). -/
theorem getLsbD_seven_rotateRight_carry (d : Byte) (c : Bool) :
    (d >>> 1 ||| if c then 0x80#8 else 0x00#8).getLsbD 7 = c := by
  cases c <;> simp

theorem RmwOp.run_lsr (p : Flags) (d : Byte) :
    RmwOp.lsr.run p d =
      (d >>> 1, { p with n := false, z := decide (d >>> 1 = 0x00#8), c := d.getLsbD 0 }) := by
  rw [← getLsbD_seven_shiftRight_one d]
  rfl

theorem RmwOp.run_ror (p : Flags) (d : Byte) :
    RmwOp.ror.run p d =
      let r := (d >>> 1) ||| (if p.c then 0x80#8 else 0x00#8)
      (r, { p with n := p.c, z := decide (r = 0x00#8), c := d.getLsbD 0 }) := by
  simp only [RmwOp.run, rorOp, shiftFlags, Flags.setNZ, getLsbD_seven_rotateRight_carry]

/-! ### The statements -/

/-- Settles O10: every row is a row of INC or of DEC. -/
theorem incAndDecModifyMemory : Obligations.IncAndDecModifyMemory := by
  intro s b w
  refine ⟨fun r hr => .of_isRmw (op := .inc) ?_ s, fun r hr => .of_isRmw (op := .dec) ?_ s⟩
  all_goals
    fin_cases hr <;> exact ⟨rfl, rfl, rfl⟩

/-- Settles O11: each is an instruction of T-IMP, and its operation sets X or Y with N and Z. -/
theorem incAndDecModifyIndexRegisters : Obligations.IncAndDecModifyIndexRegisters := fun s =>
  ⟨.of_form (op := .inx) rfl s, .of_form (op := .iny) rfl s, .of_form (op := .dex) rfl s,
    .of_form (op := .dey) rfl s⟩

/-- Settles O12: the memory forms are rows of ASL and of ROL, and the Accumulator forms apply the same
operation to A in T-IMP. -/
theorem aslAndRolShiftLeft : Obligations.AslAndRolShiftLeft := by
  intro s b w
  refine ⟨fun r hr => .of_isRmw (op := .asl) ?_ s, .of_form (op := .aslA) rfl s,
    fun r hr => .of_isRmw (op := .rol) ?_ s, .of_form (op := .rolA) rfl s⟩
  all_goals
    fin_cases hr <;> exact ⟨rfl, rfl, rfl⟩

/-- Settles O13: as O12, and bit 7 of the result, which is N, is 0 after LSR and the old carry after
ROR. -/
theorem lsrAndRorShiftRight : Obligations.LsrAndRorShiftRight := by
  intro s b w
  refine ⟨fun r hr => ?_, ?_, fun r hr => ?_, ?_⟩
  · have hrow : r.IsRmw .lsr := by
      fin_cases hr <;> exact ⟨rfl, rfl, rfl⟩
    simpa only [RmwOp.run_lsr] using RmwResult.of_isRmw hrow s
  · have hacc : ImpliedResult s .lsrA 0x4A#8 (·.shiftA .lsr) := .of_form (op := .lsrA) rfl s
    simpa only [Regs.shiftA, RmwOp.run_lsr] using hacc
  · have hrow : r.IsRmw .ror := by
      fin_cases hr <;> exact ⟨rfl, rfl, rfl⟩
    simpa only [RmwOp.run_ror] using RmwResult.of_isRmw hrow s
  · have hacc : ImpliedResult s .rorA 0x6A#8 (·.shiftA .ror) := .of_form (op := .rorA) rfl s
    simpa only [Regs.shiftA, RmwOp.run_ror] using hacc

end Sys2Proof.Machine
end

section
/-! Branches and jumps (R290 to R299). -/

namespace Sys2Proof.Machine

/-! ### Conditional branches (T-REL) -/

theorem samePage_iff (pcn : Word) (off : Byte) :
    samePage pcn off = true ↔ highByte (pcn + sext16 off) = highByte pcn :=
  decide_eq_true_iff

/-- A branch on the condition `k`: two, three or four reads, as the condition and the target's page say
(R290). -/
theorem BranchResult.of_form {i : Instr} {k : Cond} {off : Byte} (hform : formOf i = .branch k)
    (hbytes : encode i = [i.opcode, off]) (s : State) :
    BranchResult s i i.opcode off (k.holds s.cpu.regs.p) := by
  refine ⟨rfl, ?_⟩
  split
  next hno =>
    apply Ends.completes
    rw [hform, hbytes]
    exact s.runForm_branch_no k i.opcode off [] hno
  next hnot =>
    have hyes : k.holds s.cpu.regs.p = true := Bool.eq_true_of_not_eq_false hnot
    split
    next hpage =>
      apply Ends.completes
      rw [hform, hbytes]
      exact s.runForm_branch_near k i.opcode off [] hyes ((samePage_iff ..).2 hpage)
    next hpage =>
      apply Ends.completes
      rw [hform, hbytes]
      exact s.runForm_branch_far k i.opcode off [] hyes
        (Bool.eq_false_iff.2 (mt (samePage_iff ..).1 hpage))

/-- Settles O14: each is a branch of T-REL on its own condition. -/
theorem branchesFollowTheirCondition : Obligations.BranchesFollowTheirCondition := fun s off =>
  ⟨.of_form (i := .bcc off) (k := .cc) rfl rfl s, .of_form (i := .bcs off) (k := .cs) rfl rfl s,
    .of_form (i := .beq off) (k := .eq) rfl rfl s, .of_form (i := .bne off) (k := .ne) rfl rfl s,
    .of_form (i := .bmi off) (k := .mi) rfl rfl s, .of_form (i := .bpl off) (k := .pl) rfl rfl s,
    .of_form (i := .bvc off) (k := .vc) rfl rfl s, .of_form (i := .bvs off) (k := .vs) rfl rfl s⟩

/-! ### JMP (T-JMPABS, T-JMPIND) -/

/-- Settles O15: the operand is the word of its two bytes, and the tables jump to it and through it. -/
theorem jmpGoesToItsTarget : Obligations.JmpGoesToItsTarget := by
  intro s w
  have habs := s.runForm_jmpAbs 0x4C#8 (lowByte w) (highByte w) []
  have hind := s.runForm_jmpInd 0x6C#8 (lowByte w) (highByte w) []
  rw [word_highByte_lowByte] at habs hind
  exact ⟨rfl, Ends.completes (i := .jmpAbs w) habs, rfl, Ends.completes (i := .jmpInd w) hind⟩

end Sys2Proof.Machine
end

section
/-! The machine cycles of a sequence as the rows of its table (R151, R153), and JSR's, up to the fetch of
its last byte (R300). -/

namespace Sys2Proof.Machine

/-! ### One machine cycle of the engine -/

/-- An instruction's c1 is the opcode fetch (R151). -/
theorem State.machineCycle_of_atInstr {s : State} (h : s.atInstr) :
    s.machineCycle = (s.startSeq .instr).rowCycle (opcodeRow s.cfg.illegalPolicy) none false := by
  obtain ⟨hfault, hcyc, hseq⟩ := h
  have hbegin : s.vicStep.beginIfBoundary = (s.startSeq .instr).vicStep := by
    simp [State.beginIfBoundary, Cpu.beginSeq, hcyc, hseq, State.startSeq, State.vicStep_withCpu]
  simp [State.machineCycle, State.cpuStep, hfault, hbegin, State.nextRow, State.rowCycle]

/-- After c1 each cycle runs the row of the running sequence's table that `cyc` numbers (R151). -/
theorem State.machineCycle_of_row {s : State} {r : Row} (hfault : s.cpu.fault = none)
    (hcyc : s.cpu.micro.cyc ≠ 0) (hrow : s.seqRows[s.cpu.micro.cyc]? = some r) :
    s.machineCycle = s.rowCycle r none (decide (s.cpu.micro.cyc + 1 = s.seqRows.length)) := by
  have hrows : s.vicStep.seqRows = s.seqRows := by simp [State.seqRows]
  simp [State.machineCycle, State.cpuStep, hfault, State.beginIfBoundary, hcyc, State.nextRow, hrows,
    hrow, State.rowCycle]

/-- The opcode fetch of a documented opcode (R150): IR is loaded, PC counted up, and nothing stops. -/
theorem State.machineCycle_of_documented {s : State} (h : s.atInstr)
    (hd : documented s.byteAtPc = true) :
    s.machineCycle = (s.readCycle s.cpu.regs.pc).withCpu
      ((((s.cpu.startSeq .instr).latch fun m => { m with ir := s.byteAtPc }).incPc).endCycle false) := by
  have hread : s.readAt s.cpu.regs.pc = s.byteAtPc := rfl
  simp [State.machineCycle_of_atInstr h, State.rowCycle_of_read, opcodeRow, hread, hd,
    State.startSeq]

/-! ### The bytes of a JSR (R300) -/

theorem State.byteAtPc_withCpu (s : State) (c : Cpu) : (s.withCpu c).byteAtPc = s.readAt c.regs.pc :=
  s.readAt_withCpu c c.regs.pc

theorem opcodeRows_jsr : opcodeRows 0x20#8 = jsrRows := rfl

/-- The machine before the last cycle of a JSR, seen from outside the processor: two fetches, the dummy
stack read and the two pushes (R300). -/
def State.jsrPushed (s : State) : State :=
  let q := s.cpu.regs
  ((s.reads [q.pc, q.pc + 1, stackAddr q.s]).writeCycle (stackAddr q.s)
    (highByte (q.pc + 2))).writeCycle (stackAddr (q.s - 1)) (lowByte (q.pc + 2))

/-- After the pushes the engine is about to fetch JSR's last byte (R300). -/
theorem State.cycles_five_of_jsr {s : State} (h : s.atInstr) (hop : s.byteAtPc = 0x20#8) :
    ∃ c, State.cycles 5 s = s.jsrPushed.withCpu c ∧ c.regs.pc = s.cpu.regs.pc + 2 := by
  have hfault : s.cpu.fault = none := h.1
  have hc1 := State.machineCycle_of_documented h (by rw [hop]; rfl)
  rw [hop] at hc1
  simp only [State.cycles, hc1]
  refine ⟨?cpu, ?outside, ?pc⟩
  case outside =>
    simp [State.machineCycle_of_row, State.rowCycle_of_read, State.rowCycle_write, State.seqRows,
      opcodeRows_jsr, jsrRows, operandRow, dummyStackRow, pushRow, Cpu.stk, hfault,
      BitVec.add_assoc, State.jsrPushed]
    rfl
  case pc => simp [BitVec.add_assoc]

/-- The bytes the bus gives at a JSR opcode: the second in c2, the third in c6 (R300). -/
theorem State.fetchBytes_of_jsr {s : State} (h : s.atInstr) (hop : s.byteAtPc = 0x20#8) :
    s.fetchBytes =
      [0x20#8, (s.readCycle s.cpu.regs.pc).readAt (s.cpu.regs.pc + 1),
        s.jsrPushed.readAt (s.cpu.regs.pc + 2)] := by
  have hc1 := State.machineCycle_of_documented h (by rw [hop]; rfl)
  obtain ⟨c, hc5, hpc⟩ := State.cycles_five_of_jsr h hop
  have h2 : (State.cycles 1 s).byteAtPc =
      (s.readCycle s.cpu.regs.pc).readAt (s.cpu.regs.pc + 1) := by
    simp [State.cycles, hc1, State.byteAtPc_withCpu]
  have h6 : (State.cycles 5 s).byteAtPc = s.jsrPushed.readAt (s.cpu.regs.pc + 2) := by
    rw [hc5, State.byteAtPc_withCpu, hpc]
  simp only [State.fetchBytes, hop, if_true, h2, h6]

theorem decode_jsr (lo hi : Byte) :
    decode [0x20#8, lo, hi] = .ok (.jsr (word hi lo), []) := rfl

/-- At an instruction boundary a step runs the instruction its bytes decode to (R153, R179). -/
theorem step_of_decode {s : State} {i : Instr} {rest : List Byte} (h : s.atInstr)
    (hd : decode s.fetchBytes = .ok (i, rest)) : step s = exec i s := by
  obtain ⟨hfault, hcyc, hseq⟩ := h
  simp [step, hfault, hcyc, hseq, hd]

/-- Settles O16: T-JSR on the operand's two bytes; at a JSR opcode the last of the bytes that a step
decodes is fetched after the pushes. -/
theorem jsrPushesItsLastByteAddress : Obligations.JsrPushesItsLastByteAddress := by
  refine fun s => ⟨fun w => ⟨rfl, ?_⟩, fun h hop => ?_⟩
  · have hjsr := s.runForm_jsr 0x20#8 (lowByte w) (highByte w) []
    rw [word_highByte_lowByte] at hjsr
    exact Ends.completes (i := .jsr w) hjsr
  · apply step_of_decode h (rest := [])
    rw [State.fetchBytes_of_jsr h hop]
    exact decode_jsr ..

end Sys2Proof.Machine
end

section
/-! Returns and the software interrupt (R301 to R303). -/

namespace Sys2Proof.Machine

/-- Settles O17: T-RTS pulls the address of the call's last byte and steps past it. -/
theorem rtsReturnsPastThePulledAddress : Obligations.RtsReturnsPastThePulledAddress := fun s =>
  ⟨rfl, Ends.completes (s.runForm_rts Instr.rts.opcode [])⟩

/-- Settles O18: T-RTI pulls the status, of which `unpack` takes the six flags, and then the address. -/
theorem rtiRestoresStatusAndPc : Obligations.RtiRestoresStatusAndPc := fun s =>
  ⟨rfl, Ends.completes (s.runForm_rti Instr.rti.opcode [])⟩

/-- Settles O19: T-BRK skips the padding byte and takes the exception through the vector 0xFFFE. -/
theorem brkTakesTheSoftwareInterrupt : Obligations.BrkTakesTheSoftwareInterrupt := fun s =>
  ⟨rfl, Ends.completes (s.runForm_brk Instr.brk.opcode [])⟩

end Sys2Proof.Machine
end

section
/-! Stack and flag instructions (R320 to R331). -/

namespace Sys2Proof.Machine

/-- T-PUSH: the byte of the register `r` goes to the stack address, and S is counted down. -/
theorem Completes.of_push {i : Instr} {r : StackReg} (hform : formOf i = .push r)
    (hbytes : encode i = [i.opcode]) (s : State) :
    let q := s.cpu.regs
    Completes i s ((s.reads [q.pc, q.pc + 1]).writeCycle (stackAddr q.s) (r.pushed q))
      { q with pc := q.pc + 1, s := q.s - 1 } := by
  apply Ends.completes
  rw [hform, hbytes]
  exact s.runForm_push r i.opcode []

/-- T-PULL: S is counted up before the read, and `r` takes the byte read. -/
theorem Completes.of_pull {i : Instr} {r : StackReg} (hform : formOf i = .pull r)
    (hbytes : encode i = [i.opcode]) (s : State) :
    let q := s.cpu.regs
    let v := s.reads [q.pc, q.pc + 1, stackAddr q.s]
    Completes i s (v.readCycle (stackAddr (q.s + 1)))
      (r.pulled { q with pc := q.pc + 1, s := q.s + 1 } (v.readAt (stackAddr (q.s + 1)))) := by
  apply Ends.completes
  rw [hform, hbytes]
  exact s.runForm_pull r i.opcode []

/-- Settles O20: PHA and PHP are T-PUSH of A and of the packed status; PLA and PLP are T-PULL into A,
with N and Z, and into the six flags that `unpack` takes. -/
theorem pushesAndPullsUseTheStackPage : Obligations.PushesAndPullsUseTheStackPage := fun s =>
  ⟨⟨rfl, .of_push (r := .a) rfl rfl s⟩, ⟨rfl, .of_push (r := .p) rfl rfl s⟩,
    ⟨rfl, .of_pull (r := .a) rfl rfl s⟩, ⟨rfl, .of_pull (r := .p) rfl rfl s⟩⟩

/-- Settles O21: each is an instruction of T-IMP, and its operation writes the one flag, or for NOP
none. -/
theorem flagInstructionsWriteOneFlag : Obligations.FlagInstructionsWriteOneFlag := fun s =>
  ⟨.of_form (op := .clc) rfl s, .of_form (op := .cld) rfl s, .of_form (op := .cli) rfl s,
    .of_form (op := .clv) rfl s, .of_form (op := .sec) rfl s, .of_form (op := .sed) rfl s,
    .of_form (op := .sei) rfl s, .of_form (op := .nop) rfl s⟩

end Sys2Proof.Machine
end

section
/-! The VIC's registers on the bus (R418, R419). -/

namespace Sys2Proof.Machine

theorem Vic.read_of_lt (w : Vic) {o : Nat} (h : o < 16) : w.read o = w.reg[o] := dif_pos h

theorem Vic.read_of_le (w : Vic) {o : Nat} (h : 16 ≤ o) : w.read o = w.lastFetch :=
  dif_neg (Nat.not_lt.2 h)

theorem Vic.write_of_lt (c : Config) (w : Vic) {o : Nat} (h : o < 16) (v : Byte) :
    w.write c o v = { w with
      reg := w.reg.set o v, derived := derive c (w.reg.set o v)
      mc := multicolour (derive c (w.reg.set o v)) w.cellColour } := dif_pos h

theorem Vic.write_of_le (c : Config) (w : Vic) {o : Nat} (h : 16 ≤ o) (v : Byte) :
    w.write c o v = w := dif_neg (Nat.not_lt.2 h)

theorem State.readByte_of_vic {s : State} {a : Word} {o : Nat} (h : s.chipAt a = (.vic, o)) :
    s.readByte a = s.vic.read o := by
  simp only [State.readByte, h]

theorem State.afterRead_of_vic {s : State} {a : Word} {o : Nat} (h : s.chipAt a = (.vic, o)) :
    s.afterRead a = s := by
  simp only [State.afterRead, State.drawsAt, h, Bool.false_eq_true, if_false]

/-- A write to the VIC reaches the VIC only, not the memory and not the PIA (R70, R81). -/
theorem State.writeByte_of_vic {s : State} {a : Word} {o : Nat} (h : s.chipAt a = (.vic, o))
    (v : Byte) : s.writeByte a v = { s with vic := s.vic.write s.cfg o v } := by
  simp only [State.writeByte, State.memAfterWrite, State.vicAfterWrite, State.piaAfterWrite, h]

/-- Settles O49: the VIC's own read and write, below offset 16 and from 16 on, as the bus performs
them. -/
theorem vicRegistersReadBackAndRecompute : Obligations.VicRegistersReadBackAndRecompute := by
  intro s a o v ho
  rw [State.readByte_of_vic ho, State.writeByte_of_vic ho]
  refine ⟨State.afterRead_of_vic ho, fun h => ?_, fun h => ?_⟩
  · rw [Vic.read_of_lt _ h, Vic.write_of_lt _ _ h]
    exact ⟨rfl, rfl⟩
  · rw [Vic.read_of_le _ h, Vic.write_of_le _ _ h]
    exact ⟨rfl, rfl⟩

end Sys2Proof.Machine
end

section
/-! The derived fields as arithmetic on the register bytes (R417). -/

namespace Sys2Proof.Machine

theorem toNat_and_0x7F (b : Byte) : (b &&& 0x7F#8).toNat = b.toNat % 128 := by
  rw [BitVec.toNat_and]
  exact Nat.and_two_pow_sub_one_eq_mod b.toNat 7

theorem toNat_and_0x3FFF (w : Word) : (w &&& 0x3FFF#16).toNat = w.toNat % 0x4000 := busAddr_eq_mod w

theorem toNat_highNibble (b : Byte) : (b.extractLsb' 4 4).toNat = b.toNat / 16 := by
  have h := b.isLt
  simp [Nat.shiftRight_eq_div_pow]
  omega

theorem toNat_lowNibble (b : Byte) : (b.extractLsb' 0 4).toNat = b.toNat % 16 := by simp

/-- The register's bit 7 is the displacement 0x200 of the two tables (R417). -/
theorem toNat_vaddr9 (b : Byte) : (vaddr9 b).toNat = b.toNat / 128 * 0x200 := by
  have h := b.isLt
  unfold vaddr9
  rw [getLsbD_seven_eq_decide]
  by_cases h7 : 128 ≤ b.toNat <;> simp [h7] <;> omega

/-- A base with the displacement, in the 14-bit space (R417). -/
theorem toNat_add_vaddr9 (base : Word) (b : Byte) :
    ((base + vaddr9 b) &&& 0x3FFF#16).toNat = (base.toNat + b.toNat / 128 * 0x200) % 0x4000 := by
  rw [toNat_and_0x3FFF, BitVec.toNat_add, toNat_vaddr9]
  omega

theorem toNat_rowsField (b : Byte) : ((b >>> 1) &&& 0x3F#8).toNat = b.toNat / 2 % 64 := by
  rw [BitVec.toNat_and, BitVec.toNat_ushiftRight, Nat.shiftRight_eq_div_pow]
  exact Nat.and_two_pow_sub_one_eq_mod _ 6

theorem toNat_borderField (b : Byte) :
    (b.extractLsb' 0 4 &&& 0x7#4).toNat = b.toNat % 8 := by
  rw [BitVec.toNat_and, toNat_lowNibble]
  exact (Nat.and_two_pow_sub_one_eq_mod (b.toNat % 16) 3).trans (by omega)

theorem getLsbD_zero_eq_decide (b : Byte) : b.getLsbD 0 = decide (b.toNat % 2 = 1) := by
  simp [BitVec.getLsbD, Nat.testBit_zero]

/-- Settles O50: each field is a bit field of one register, whose number is the quotient or the
remainder R417 takes. -/
theorem derivedFieldsAreThoseOfTheRegisters : Obligations.DerivedFieldsAreThoseOfTheRegisters := by
  intro c reg
  have hborder := toNat_borderField reg[15]
  have hbackground := toNat_highNibble reg[15]
  have haux := toNat_highNibble reg[14]
  refine ⟨toNat_and_0x7F reg[2], toNat_rowsField reg[3], ?size,
    congrArg (· * 4) (toNat_and_0x7F reg[0]), rfl, rfl, rfl, ?video, toNat_add_vaddr9 _ reg[2],
    ?char, hbackground, hborder, haux, fun _ => ⟨hbackground, hborder, rfl, haux⟩⟩
  case size =>
    show (if reg[3].getLsbD 0 = true then 16 else 8, if reg[3].getLsbD 0 = true then 4 else 3) =
      if reg[3].toNat % 2 = 1 then (16, 4) else (8, 3)
    rw [getLsbD_zero_eq_decide]
    by_cases h : reg[3].toNat % 2 = 1 <;> simp [h]
  case video =>
    intro n hn
    rw [show n = (reg[5].extractLsb' 4 4).toFin from Fin.ext (hn.trans (toNat_highNibble _).symm)]
    exact toNat_add_vaddr9 _ reg[2]
  case char =>
    intro n hn
    rw [show n = (reg[5].extractLsb' 0 4).toFin from Fin.ext (hn.trans (toNat_lowNibble _).symm)]
    exact toNat_and_0x3FFF _

end Sys2Proof.Machine
end

section
/-! The advance at the end of every VIC step (R421 to R425, R433). -/

namespace Sys2Proof.Machine

/-! ### The raster mirror (R423) -/

theorem Vic.mirror_reg_congr {w u : Vic} (h : w.reg = u.reg) (x : Nat) :
    (w.mirror x).reg = (u.mirror x).reg := by
  simp only [Vic.mirror, h]

theorem Vic.toNat_mirror_reg_four (w : Vic) (x : Nat) :
    (w.mirror x).reg[4].toNat = x / 2 % 256 := by
  simp [Vic.mirror]

/-- The low seven bits of a byte with bit 7 the lowest bit of a number (R423). -/
theorem toNat_low7_or_bit7 (b : Byte) (x : Nat) :
    ((b &&& 0x7F#8) ||| (if x % 2 = 1 then 0x80#8 else 0x00#8)).toNat =
      b.toNat % 128 + x % 2 * 128 := by
  rw [BitVec.toNat_or, toNat_and_0x7F, Nat.add_comm]
  rcases Nat.mod_two_eq_zero_or_one x with hx | hx
  · simp [hx]
  · simpa [hx, Nat.or_comm] using
      (Nat.two_pow_add_eq_or_of_lt (i := 7) (Nat.mod_lt b.toNat (by decide)) 1).symm

theorem Vic.toNat_mirror_reg_three (w : Vic) (x : Nat) :
    (w.mirror x).reg[3].toNat = w.reg[3].toNat % 128 + x % 2 * 128 := by
  simpa [Vic.mirror] using toNat_low7_or_bit7 w.reg[3] x

theorem Vic.mirror_reg_of_ne (w : Vic) (x : Nat) {k : Nat} (h : k < 16) (h3 : k ≠ 3) (h4 : k ≠ 4) :
    (w.mirror x).reg[k] = w.reg[k] := by
  simp [Vic.mirror, h3.symm, h4.symm]

/-! ### The cases of the advance -/

/-- The line end before the row or the frame goes on: h wraps, v counts and wraps at the last line, the
count before the wrap is mirrored (R421, R423), and the render path goes back to screen codes. -/
def Vic.lineEnd (p : Profile) (render : Bool) (w : Vic) : Vic :=
  { w with
    h := 0
    v := if p.height ≤ w.v + 1 then 0 else w.v + 1
    fetchToggle := if render then .screenCode else w.fetchToggle }.mirror (w.v + 1)

section
variable (w : Vic) (p : Profile) (render : Bool)

@[simp] theorem Vic.lineEnd_h : (w.lineEnd p render).h = 0 := rfl
@[simp] theorem Vic.lineEnd_v :
    (w.lineEnd p render).v = if p.height ≤ w.v + 1 then 0 else w.v + 1 := rfl
@[simp] theorem Vic.lineEnd_reg : (w.lineEnd p render).reg = (w.mirror (w.v + 1)).reg := rfl
@[simp] theorem Vic.lineEnd_derived : (w.lineEnd p render).derived = w.derived := rfl
@[simp] theorem Vic.lineEnd_matrixCounter :
    (w.lineEnd p render).matrixCounter = w.matrixCounter := rfl
@[simp] theorem Vic.lineEnd_rowStart : (w.lineEnd p render).rowStart = w.rowStart := rfl
@[simp] theorem Vic.lineEnd_cellDepth : (w.lineEnd p render).cellDepth = w.cellDepth := rfl
@[simp] theorem Vic.lineEnd_fetchToggle :
    (w.lineEnd p render).fetchToggle = if render then .screenCode else w.fetchToggle := rfl
@[simp] theorem Vic.lineEnd_active : (w.lineEnd p render).active = w.active := rfl
@[simp] theorem Vic.frame_lineEnd (k : FrameId) : (w.lineEnd p render).frame k = w.frame k := by
  cases k <;> rfl

end

theorem Vic.advance_skip_line_end {w : Vic} {p : Profile} (h : p.width ≤ w.h + 4) (c : Config) :
    w.advance c p false = w.lineEnd p false := by
  simp [Vic.advance, Vic.endsLine, h, Vic.lineEnd]

/-- The render path's line end that goes on in the frame (R425). -/
theorem Vic.advance_render_line_end {w : Vic} {p : Profile} (h : p.width ≤ w.h + 4)
    (hv : w.v + 1 < p.height) (c : Config) :
    w.advance c p true = (w.lineEnd p true).lineAdvance c.rowAdvance w.v := by
  simp [Vic.advance, Vic.endsLine, h, Nat.not_le.2 hv, Vic.lineEnd, Vic.mirror]

/-- The render path's line end that completes the frame (R424). -/
theorem Vic.advance_render_frame_end {w : Vic} {p : Profile} (h : p.width ≤ w.h + 4)
    (hv : p.height ≤ w.v + 1) (c : Config) :
    w.advance c p true = (w.lineEnd p true).frameEnd := by
  simp [Vic.advance, Vic.endsLine, h, hv, Vic.lineEnd, Vic.mirror]

/-! ### The matrix row (R425) and the frame end (R424) -/

theorem Vic.lineAdvance_outside {policy : RowAdvance} {w : Vic} {lineV : Nat}
    (h : ¬(policy = .everyLine ∨ (w.derived.screenTop ≤ lineV ∧ lineV < w.derived.screenBottom))) :
    w.lineAdvance policy lineV = w := if_neg h

theorem Vic.lineAdvance_same_row {policy : RowAdvance} {w : Vic} {lineV : Nat}
    (h : policy = .everyLine ∨ (w.derived.screenTop ≤ lineV ∧ lineV < w.derived.screenBottom))
    (hdepth : ¬w.derived.charSize ≤ w.cellDepth + 1) :
    w.lineAdvance policy lineV =
      { w with cellDepth := w.cellDepth + 1, matrixCounter := w.rowStart } :=
  (if_pos h).trans (if_neg hdepth)

theorem Vic.lineAdvance_next_row {policy : RowAdvance} {w : Vic} {lineV : Nat}
    (h : policy = .everyLine ∨ (w.derived.screenTop ≤ lineV ∧ lineV < w.derived.screenBottom))
    (hdepth : w.derived.charSize ≤ w.cellDepth + 1) :
    w.lineAdvance policy lineV =
      { w with
        cellDepth := 0
        rowStart := w.rowStart + BitVec.ofNat 16 w.derived.columns
        matrixCounter := w.rowStart + BitVec.ofNat 16 w.derived.columns } :=
  (if_pos h).trans (if_pos hdepth)

/-- The frame written so far is marked ready. -/
theorem Vic.frame_frameEnd_active {w : Vic} {k : FrameId} (h : w.active = k) :
    w.frameEnd.frame k = { w.frame k with ready := true } := by
  subst h
  obtain ⟨_, _, _, _, _, _, _, _, _, _, _, _, _, _, _, active⟩ := w
  cases active <;> rfl

/-- The other frame is handed over unready, its pixels as they were. -/
theorem Vic.frame_frameEnd_other {w : Vic} {k : FrameId} (h : w.active = k) :
    w.frameEnd.frame k.other = { w.frame k.other with ready := false } := by
  subst h
  obtain ⟨_, _, _, _, _, _, _, _, _, _, _, _, _, _, _, active⟩ := w
  cases active <;> rfl

/-! ### The counters at a line end, on both paths -/

/-- Of a line end's counters and registers, what the render path adds changes nothing. -/
theorem Vic.advance_counters_line_end {w : Vic} {p : Profile} (h : p.width ≤ w.h + 4) (c : Config)
    (render : Bool) :
    let u := w.advance c p render
    u.h = 0 ∧ u.v = (if p.height ≤ w.v + 1 then 0 else w.v + 1) ∧
      u.reg = (w.mirror (w.v + 1)).reg ∧ u.derived = w.derived := by
  cases render with
  | false =>
    simp [Vic.advance_skip_line_end h]
  | true =>
    rcases Nat.lt_or_ge (w.v + 1) p.height with hv | hv
    · simp [Vic.advance_render_line_end h hv]
    · simp [Vic.advance_render_frame_end h hv]

end Sys2Proof.Machine
end

section
/-! What the fetches and pixels of a render-path cycle leave, before the advance (R427 to R432). -/

namespace Sys2Proof.Machine

/-! ### Pixels in order -/

/-- What one pixel leaves unchanged, any number of pixels leaves unchanged. -/
theorem Vic.emitAll_keeps {α : Type} (f : Vic → α) {limit : Nat}
    (h : ∀ w c, f (Vic.emit limit w c) = f w) (w : Vic) (cs : List (BitVec 4)) :
    f (w.emitAll limit cs) = f w := by
  induction cs generalizing w with
  | nil => rfl
  | cons c cs ih => exact (ih _).trans (h w c)

@[simp] theorem Vic.emitAll_reg (w : Vic) (n : Nat) (cs : List (BitVec 4)) :
    (w.emitAll n cs).reg = w.reg := Vic.emitAll_keeps Vic.reg (Vic.emit_reg · n ·) w cs
@[simp] theorem Vic.emitAll_derived (w : Vic) (n : Nat) (cs : List (BitVec 4)) :
    (w.emitAll n cs).derived = w.derived := Vic.emitAll_keeps Vic.derived (Vic.emit_derived · n ·) w cs
@[simp] theorem Vic.emitAll_v (w : Vic) (n : Nat) (cs : List (BitVec 4)) :
    (w.emitAll n cs).v = w.v := Vic.emitAll_keeps Vic.v (Vic.emit_v · n ·) w cs
@[simp] theorem Vic.emitAll_matrixCounter (w : Vic) (n : Nat) (cs : List (BitVec 4)) :
    (w.emitAll n cs).matrixCounter = w.matrixCounter :=
  Vic.emitAll_keeps Vic.matrixCounter (Vic.emit_matrixCounter · n ·) w cs
@[simp] theorem Vic.emitAll_rowStart (w : Vic) (n : Nat) (cs : List (BitVec 4)) :
    (w.emitAll n cs).rowStart = w.rowStart :=
  Vic.emitAll_keeps Vic.rowStart (Vic.emit_rowStart · n ·) w cs
@[simp] theorem Vic.emitAll_cellDepth (w : Vic) (n : Nat) (cs : List (BitVec 4)) :
    (w.emitAll n cs).cellDepth = w.cellDepth :=
  Vic.emitAll_keeps Vic.cellDepth (Vic.emit_cellDepth · n ·) w cs
@[simp] theorem Vic.emitAll_fetchToggle (w : Vic) (n : Nat) (cs : List (BitVec 4)) :
    (w.emitAll n cs).fetchToggle = w.fetchToggle :=
  Vic.emitAll_keeps Vic.fetchToggle (Vic.emit_fetchToggle · n ·) w cs
@[simp] theorem Vic.emitAll_active (w : Vic) (n : Nat) (cs : List (BitVec 4)) :
    (w.emitAll n cs).active = w.active := Vic.emitAll_keeps Vic.active (Vic.emit_active · n ·) w cs

/-- A pixel goes to the active frame only (R431). -/
@[simp] theorem Vic.frame_other_emit (w : Vic) (n : Nat) (c : BitVec 4) :
    (w.emit n c).frame w.active.other = w.frame w.active.other :=
  Vic.frame_setFrame_other w w.active _

@[simp] theorem Vic.frame_other_emitAll (w : Vic) (n : Nat) (cs : List (BitVec 4)) :
    (w.emitAll n cs).frame w.active.other = w.frame w.active.other := by
  simpa using Vic.emitAll_keeps (fun u => u.frame u.active.other) (limit := n) (by simp) w cs

/-! ### The four kinds of cycle (R427) -/

theorem Vic.inWindow_iff (w : Vic) :
    w.inWindow = true ↔ w.derived.screenLeft ≤ w.h ∧ w.h < w.derived.screenRight ∧
      w.derived.screenTop ≤ w.v ∧ w.v < w.derived.screenBottom := decide_eq_true_iff

theorem State.vicRendered_blank {s : State} (h : s.vic.v < s.profile.vblank) :
    s.vicRendered = s.vic ∧ s.vicFetches = [] := by
  simp [State.vicRendered, State.vicFetches, Vic.cycleKind, h]

theorem State.vicRendered_screenCode {s : State} (hv : s.profile.vblank ≤ s.vic.v)
    (hin : s.vic.inWindow = true) (ht : s.vic.fetchToggle = .screenCode) :
    s.vicRendered = s.vic.takeCode (s.readByte s.vic.codeAddr)
        ((s.afterRead s.vic.codeAddr).readByte s.vic.colourAddr) ∧
      s.vicFetches = [s.vic.codeAddr, s.vic.colourAddr] := by
  simp [State.vicRendered, State.vicFetches, Vic.cycleKind, Nat.not_lt.2 hv, hin, ht]

theorem State.vicRendered_charData {s : State} (hv : s.profile.vblank ≤ s.vic.v)
    (hin : s.vic.inWindow = true) (ht : s.vic.fetchToggle = .charData) :
    s.vicRendered = s.vic.takeChar s.profile (s.readByte s.vic.charAddr) ∧
      s.vicFetches = [s.vic.charAddr] := by
  simp [State.vicRendered, State.vicFetches, Vic.cycleKind, Nat.not_lt.2 hv, hin, ht]

theorem State.vicRendered_border {s : State} (hv : s.profile.vblank ≤ s.vic.v)
    (hin : s.vic.inWindow = false) :
    s.vicRendered = s.vic.takeBorder s.profile (s.readByte s.cfg.borderFetch) ∧
      s.vicFetches = [s.cfg.borderFetch] := by
  simp [State.vicRendered, State.vicFetches, Vic.cycleKind, Nat.not_lt.2 hv, hin]

/-! ### What a cycle leaves unchanged -/

/-- What the three fetches with their pixels leave unchanged, a render-path cycle leaves unchanged. -/
theorem State.vicRendered_keeps {α : Type} (f : Vic → α) (s : State)
    (hcode : ∀ b b', f (s.vic.takeCode b b') = f s.vic)
    (hchar : ∀ b, f (s.vic.takeChar s.profile b) = f s.vic)
    (hborder : ∀ b, f (s.vic.takeBorder s.profile b) = f s.vic) : f s.vicRendered = f s.vic := by
  unfold State.vicRendered
  split
  · rfl
  · exact hcode _ _
  · exact hchar _
  · exact hborder _

@[simp] theorem State.vicRendered_reg (s : State) : s.vicRendered.reg = s.vic.reg :=
  s.vicRendered_keeps Vic.reg (fun _ _ => rfl) (by simp [Vic.takeChar]) (by simp [Vic.takeBorder])
@[simp] theorem State.vicRendered_derived (s : State) : s.vicRendered.derived = s.vic.derived :=
  s.vicRendered_keeps Vic.derived (fun _ _ => rfl) (by simp [Vic.takeChar]) (by simp [Vic.takeBorder])
@[simp] theorem State.vicRendered_v (s : State) : s.vicRendered.v = s.vic.v :=
  s.vicRendered_keeps Vic.v (fun _ _ => rfl) (by simp [Vic.takeChar]) (by simp [Vic.takeBorder])
@[simp] theorem State.vicRendered_rowStart (s : State) : s.vicRendered.rowStart = s.vic.rowStart :=
  s.vicRendered_keeps Vic.rowStart (fun _ _ => rfl) (by simp [Vic.takeChar]) (by simp [Vic.takeBorder])
@[simp] theorem State.vicRendered_cellDepth (s : State) : s.vicRendered.cellDepth = s.vic.cellDepth :=
  s.vicRendered_keeps Vic.cellDepth (fun _ _ => rfl) (by simp [Vic.takeChar]) (by simp [Vic.takeBorder])
@[simp] theorem State.vicRendered_active (s : State) : s.vicRendered.active = s.vic.active :=
  s.vicRendered_keeps Vic.active (fun _ _ => rfl) (by simp [Vic.takeChar]) (by simp [Vic.takeBorder])

@[simp] theorem State.frame_other_vicRendered (s : State) :
    s.vicRendered.frame s.vic.active.other = s.vic.frame s.vic.active.other :=
  s.vicRendered_keeps (·.frame s.vic.active.other) (fun _ _ => rfl)
    (fun _ => Vic.frame_other_emitAll s.vic _ _) (fun _ => Vic.frame_other_emitAll s.vic _ _)

/-- Only a cycle inside the window counts the matrix counter on (R428, R429). -/
theorem State.vicRendered_matrixCounter_outside {s : State}
    (h : ¬(s.vic.derived.screenTop ≤ s.vic.v ∧ s.vic.v < s.vic.derived.screenBottom)) :
    s.vicRendered.matrixCounter = s.vic.matrixCounter := by
  have hin : s.vic.inWindow = false := by
    rw [← Bool.not_eq_true, Vic.inWindow_iff]
    exact fun ⟨_, _, hrow⟩ => h hrow
  rcases Nat.lt_or_ge s.vic.v s.profile.vblank with hv | hv
  · rw [(State.vicRendered_blank hv).1]
  · rw [(State.vicRendered_border hv hin).1]
    simp [Vic.takeBorder]

end Sys2Proof.Machine
end

section
/-! The step of the VIC on both paths (R420 to R425, R433). -/

namespace Sys2Proof.Machine

theorem State.vicStep_of_skip {s : State} (h : s.skipRender = true) :
    s.vicStep = { s with vic := s.vic.advance s.cfg s.profile false } := if_pos h

theorem State.vicStep_of_render {s : State} (h : s.skipRender = false) :
    s.vicStep = s.vicStepWithRender := if_neg (by simp [h])

theorem State.vicStep_vic_of_render {s : State} (h : s.skipRender = false) :
    s.vicStep.vic = s.vicRendered.advance s.cfg s.profile true := by
  rw [State.vicStep_of_render h]
  rfl

theorem State.completesFrame_eq (s : State) :
    s.completesFrame =
      decide (s.profile.width ≤ s.vic.h + 4 ∧ s.profile.height ≤ s.vic.v + 1) := by
  simp [State.completesFrame, Vic.endsFrame, Vic.endsLine, Bool.decide_and]

/-- On either path the step ends in the advance of a VIC with the counters, the registers and the derived
fields of the state. -/
theorem State.vicStep_vic_eq_advance (s : State) :
    ∃ (w : Vic) (render : Bool), s.vicStep.vic = w.advance s.cfg s.profile render ∧
      w.h = s.vic.h ∧ w.v = s.vic.v ∧ w.reg = s.vic.reg ∧ w.derived = s.vic.derived := by
  cases h : s.skipRender with
  | true => exact ⟨s.vic, false, by rw [State.vicStep_of_skip h], rfl, rfl, rfl, rfl⟩
  | false => exact ⟨s.vicRendered, true, State.vicStep_vic_of_render h, by simp⟩

theorem State.vicStep_counters_inside_line {s : State} (h : s.vic.h + 4 < s.profile.width) :
    s.vicStep.vic.h = s.vic.h + 4 ∧ s.vicStep.vic.v = s.vic.v ∧ s.vicStep.vic.reg = s.vic.reg ∧
      s.vicStep.vic.derived = s.vic.derived := by
  obtain ⟨w, render, hw, hh, hv, hreg, hd⟩ := s.vicStep_vic_eq_advance
  rw [hw, Vic.advance_inside_line (by rwa [hh])]
  exact ⟨congrArg (· + 4) hh, hv, hreg, hd⟩

theorem State.vicStep_counters_line_end {s : State} (h : s.profile.width ≤ s.vic.h + 4) :
    s.vicStep.vic.h = 0 ∧
      s.vicStep.vic.v = (if s.profile.height ≤ s.vic.v + 1 then 0 else s.vic.v + 1) ∧
      s.vicStep.vic.reg = (s.vic.mirror (s.vic.v + 1)).reg ∧
      s.vicStep.vic.derived = s.vic.derived := by
  obtain ⟨w, render, hw, hh, hv, hreg, hd⟩ := s.vicStep_vic_eq_advance
  have hend := Vic.advance_counters_line_end (w := w) (by rwa [hh]) s.cfg render
  rwa [← hw, hv, hd, Vic.mirror_reg_congr hreg] at hend

/-- Settles O53: the counters of the step before the line end and at it, and the three register facts of
the mirror. -/
theorem rasterCountersAdvanceAndMirror : Obligations.RasterCountersAdvanceAndMirror := by
  intro s
  refine ⟨?derived, s.completesFrame_eq, fun h => ?inside, fun h => ?lineEnd⟩
  case derived =>
    rcases Nat.lt_or_ge (s.vic.h + 4) s.profile.width with h | h
    · obtain ⟨-, -, -, hd⟩ := State.vicStep_counters_inside_line h
      exact hd
    · obtain ⟨-, -, -, hd⟩ := State.vicStep_counters_line_end h
      exact hd
  case inside =>
    obtain ⟨hh, hv, hreg, -⟩ := State.vicStep_counters_inside_line h
    exact ⟨hh, hv, hreg⟩
  case lineEnd =>
    obtain ⟨hh, hv, hreg, -⟩ := State.vicStep_counters_line_end h
    simp only [hreg]
    exact ⟨hh, hv, s.vic.toNat_mirror_reg_four _, s.vic.toNat_mirror_reg_three _,
      fun _ hk h3 h4 => s.vic.mirror_reg_of_ne _ hk h3 h4⟩

/-- Settles O54: the skip path is the bare advance, whose counters and registers are those of the other
path's step. -/
theorem skipPathMovesOnlyTheTimingCounters : Obligations.SkipPathMovesOnlyTheTimingCounters := by
  intro s hskip t r
  have ht : t = { s with vic := s.vic.advance s.cfg s.profile false } := State.vicStep_of_skip hskip
  rcases Nat.lt_or_ge (s.vic.h + 4) s.profile.width with h | h
  · obtain ⟨hh, hv, hreg, -⟩ : r.vic.h = _ ∧ r.vic.v = _ ∧ r.vic.reg = _ ∧ _ :=
      (s.setSkip false).vicStep_counters_inside_line h
    rw [ht, hh, hv, hreg, Vic.advance_inside_line h]
    rfl
  · obtain ⟨hh, hv, hreg, -⟩ : r.vic.h = _ ∧ r.vic.v = _ ∧ r.vic.reg = _ ∧ _ :=
      (s.setSkip false).vicStep_counters_line_end h
    rw [ht, hh, hv, hreg, Vic.advance_skip_line_end h]
    rfl

theorem State.vicStep_vic_render_line_end {s : State} (hskip : s.skipRender = false)
    (h : s.profile.width ≤ s.vic.h + 4) (hv : s.vic.v + 1 < s.profile.height) :
    s.vicStep.vic =
      (s.vicRendered.lineEnd s.profile true).lineAdvance s.cfg.rowAdvance s.vic.v := by
  rw [State.vicStep_vic_of_render hskip, Vic.advance_render_line_end (by simpa) (by simpa),
    State.vicRendered_v]

theorem State.vicStep_vic_render_frame_end {s : State} (hskip : s.skipRender = false)
    (h : s.profile.width ≤ s.vic.h + 4) (hv : s.profile.height ≤ s.vic.v + 1) :
    s.vicStep.vic = (s.vicRendered.lineEnd s.profile true).frameEnd := by
  rw [State.vicStep_vic_of_render hskip, Vic.advance_render_frame_end (by simpa) (by simpa)]

/-- Settles O55: the advance of the row from the fields that the cycle's fetches and the line end leave;
outside the window those include the matrix counter. -/
theorem lineEndsAdvanceTheMatrixRow : Obligations.LineEndsAdvanceTheMatrixRow := by
  intro s hskip hline hframe d w
  have hw : w = _ := State.vicStep_vic_render_line_end hskip hline hframe
  rw [hw]
  refine ⟨by simp, ?_⟩
  split
  case isTrue hrow =>
    split
    case isTrue hdepth =>
      rw [Vic.lineAdvance_next_row (by simpa using hrow) (by simpa using hdepth)]
      simp [d]
    case isFalse hdepth =>
      rw [Vic.lineAdvance_same_row (by simpa using hrow) (by simpa using hdepth)]
      simp
  case isFalse hrow =>
    rw [Vic.lineAdvance_outside (by simpa using hrow)]
    simpa using State.vicRendered_matrixCounter_outside fun hin => hrow (.inr hin)

/-- Settles O56: the handover of `frameEnd`, before which the cycle has written to the active frame
only. -/
theorem frameEndHandsTheFrameOver : Obligations.FrameEndHandsTheFrameOver := by
  intro s hskip hframe k w
  rw [State.completesFrame_eq, decide_eq_true_iff] at hframe
  obtain ⟨hline, hlast⟩ := hframe
  have hw : w = _ := State.vicStep_vic_render_frame_end hskip hline hlast
  have hactive : (s.vicRendered.lineEnd s.profile true).active = k := s.vicRendered_active
  rw [hw, Vic.frame_frameEnd_active hactive, Vic.frame_frameEnd_other hactive]
  simp [k]

end Sys2Proof.Machine
end

section
/-! The pixels, fetches and values of a render-path cycle (R427 to R432). -/

namespace Sys2Proof.Machine

/-! ### Which pixels a run of `emit` writes (R431) -/

/-- From `w` to `u`, `n` pixels were emitted, the k-th of them `colour k`: the cursor counts them all, those
past `limit` are dropped, and nothing else of the two frames changes. -/
def Vic.Emits (limit : Nat) (w u : Vic) (n : Nat) (colour : Nat → BitVec 4) : Prop :=
  u.pixelCursor = w.pixelCursor + n ∧ u.active = w.active ∧
  u.frame w.active.other = w.frame w.active.other ∧
  (u.frame w.active).ready = (w.frame w.active).ready ∧
  ∀ j, (u.frame w.active).pixels.get j =
    if w.pixelCursor ≤ j ∧ j < w.pixelCursor + n ∧ j < limit then colour (j - w.pixelCursor)
    else (w.frame w.active).pixels.get j

/-- Nothing is emitted where the cursor and the frames stay. -/
theorem Vic.Emits.none (limit : Nat) {w u : Vic} (colour : Nat → BitVec 4)
    (hcursor : u.pixelCursor = w.pixelCursor) (hactive : u.active = w.active)
    (hframe : ∀ k, u.frame k = w.frame k) : Vic.Emits limit w u 0 colour := by
  refine ⟨hcursor, hactive, hframe _, by rw [hframe], fun j => ?_⟩
  rw [hframe, if_neg (by omega)]

theorem Vic.frame_emit_active (limit : Nat) (w : Vic) (c : BitVec 4) :
    (w.emit limit c).frame w.active =
      { w.frame w.active with
        pixels := if w.pixelCursor < limit then (w.frame w.active).pixels.set w.pixelCursor c
          else (w.frame w.active).pixels } :=
  Vic.frame_setFrame_same w w.active _

theorem Vic.wf_emit {limit : Nat} {w : Vic} (h : Cells.wf (w.frame w.active).pixels = true)
    (c : BitVec 4) : Cells.wf ((w.emit limit c).frame w.active).pixels = true := by
  rw [Vic.frame_emit_active]
  dsimp only
  split
  · exact Cells.wf_set h _ _
  · exact h

theorem Vic.wf_emitAll {limit : Nat} {w : Vic} (h : Cells.wf (w.frame w.active).pixels = true)
    (cs : List (BitVec 4)) : Cells.wf ((w.emitAll limit cs).frame w.active).pixels = true := by
  induction cs generalizing w with
  | nil => exact h
  | cons c cs ih =>
    have hwf := Vic.wf_emit (limit := limit) h c
    rw [← Vic.emit_active w limit c] at hwf ⊢
    exact ih hwf

/-- One more pixel after `n` (R431). -/
theorem Vic.Emits.emit {limit : Nat} {w u : Vic} {n : Nat} {colour : Nat → BitVec 4}
    (h : Vic.Emits limit w u n colour) (hwf : Cells.wf (u.frame w.active).pixels = true) :
    Vic.Emits limit w (u.emit limit (colour n)) (n + 1) colour := by
  obtain ⟨hcursor, hactive, hother, hready, hpixels⟩ := h
  have hframe := hactive ▸ u.frame_emit_active limit (colour n)
  refine ⟨by simp [hcursor, Nat.add_assoc], by simp [hactive], ?_, by rw [hframe]; exact hready,
    fun j => ?_⟩
  · rw [← hother, ← hactive]
    exact u.frame_other_emit limit (colour n)
  · have hj := hpixels j
    rw [hframe]
    dsimp only
    split
    case isTrue hlt =>
      rw [Cells.get_set hwf, hj]
      by_cases hc : j = u.pixelCursor
      · rw [if_pos hc, if_pos (by omega), hc, hcursor, Nat.add_sub_cancel_left]
      · rw [if_neg hc]
        exact if_congr (by omega) rfl rfl
    case isFalse hle =>
      rw [hj]
      exact if_congr (by omega) rfl rfl

/-- The pixels of a list, given by their index. -/
theorem Vic.emits_emitAll {limit : Nat} {w : Vic} (hwf : Cells.wf (w.frame w.active).pixels = true)
    (n : Nat) (colour : Nat → BitVec 4) :
    Vic.Emits limit w (w.emitAll limit ((List.range n).map colour)) n colour := by
  induction n with
  | zero => exact .none limit colour rfl rfl fun _ => rfl
  | succ n ih =>
    have hlast : w.emitAll limit ((List.range (n + 1)).map colour) =
        (w.emitAll limit ((List.range n).map colour)).emit limit (colour n) := by
      simp [Vic.emitAll, List.range_succ]
    rw [hlast]
    exact ih.emit (Vic.wf_emitAll hwf _)

/-- The character-data fetch emits the byte's bits from bit 7 down: eight, or four where the line ends. -/
theorem Vic.emits_takeChar {w : Vic} (hwf : Cells.wf (w.frame w.active).pixels = true) (p : Profile)
    (b : Byte) :
    Vic.Emits (p.width * p.height) w (w.takeChar p b) (if w.h + 4 < p.width then 8 else 4)
      fun k => if b.getLsbD (7 - k) then w.cellColour else w.derived.backgroundColour := by
  unfold Vic.takeChar
  split
  · exact Vic.emits_emitAll hwf 8 fun k => w.bitColour b (7 - k)
  · exact Vic.emits_emitAll hwf 4 fun k => w.bitColour b (7 - k)

theorem Vic.emits_takeBorder {w : Vic} (hwf : Cells.wf (w.frame w.active).pixels = true) (p : Profile)
    (b : Byte) :
    Vic.Emits (p.width * p.height) w (w.takeBorder p b) 4 fun _ => w.derived.borderColour :=
  Vic.emits_emitAll hwf 4 fun _ => w.derived.borderColour

/-- Settles O57: the four kinds of cycle, each from what its fetch gives and the pixels it emits, and the
step as the cycle followed by the advance. -/
theorem renderedCyclesFetchAndEmit : Obligations.RenderedCyclesFetchAndEmit := by
  intro s hwf p d w inside emitted counters
  refine ⟨by simp [counters, w], State.vicRendered_blank, fun hv hin ht => ?screenCode,
    fun hv hin ht => ?charData, fun hv hin => ?border, fun hskip => ?step⟩
  case screenCode =>
    obtain ⟨hw, hfetch⟩ : w = _ ∧ _ := State.vicRendered_screenCode hv (s.vic.inWindow_iff.2 hin) ht
    have hemits : Vic.Emits (p.width * p.height) s.vic w 0 fun _ => 0#4 := by
      rw [hw]
      exact .none _ _ rfl rfl fun _ => rfl
    exact ⟨hfetch, congrArg Vic.cellCode hw, congrArg Vic.cellColour hw, congrArg Vic.lastFetch hw,
      congrArg Vic.matrixCounter hw, congrArg Vic.fetchToggle hw, hemits⟩
  case charData =>
    obtain ⟨hw, hfetch⟩ : w = _ ∧ _ := State.vicRendered_charData hv (s.vic.inWindow_iff.2 hin) ht
    have hcounter : w.matrixCounter = s.vic.matrixCounter :=
      (congrArg Vic.matrixCounter hw).trans (Vic.emitAll_matrixCounter ..)
    have hemits := Vic.emits_takeChar hwf p (s.readByte s.vic.charAddr)
    rw [← hw] at hemits
    exact ⟨hfetch, congrArg Vic.lastFetch hw, congrArg Vic.fetchToggle hw, hcounter, hemits⟩
  case border =>
    obtain ⟨hw, hfetch⟩ : w = _ ∧ _ := State.vicRendered_border hv
      (Bool.eq_false_iff.2 (mt s.vic.inWindow_iff.1 hin))
    have htoggle : w.fetchToggle = s.vic.fetchToggle :=
      (congrArg Vic.fetchToggle hw).trans (Vic.emitAll_fetchToggle ..)
    have hcounter : w.matrixCounter = s.vic.matrixCounter :=
      (congrArg Vic.matrixCounter hw).trans (Vic.emitAll_matrixCounter ..)
    have hemits := Vic.emits_takeBorder hwf p (s.readByte s.cfg.borderFetch)
    rw [← hw] at hemits
    exact ⟨hfetch, congrArg Vic.lastFetch hw, htoggle, hcounter, hemits⟩
  case step =>
    have hvic : s.vicStep.vic = w.advance s.cfg p true := State.vicStep_vic_of_render hskip
    obtain ⟨hcode, hcolour, hlast⟩ := w.advance_fetched s.cfg p true
    intro t
    simp only [t, hvic]
    refine ⟨(State.vicStep_of_render hskip).trans s.vicStepWithRender_eq,
      w.frame_pixels_advance s.cfg p true, hcode, hcolour, hlast, fun h => ?_⟩
    rw [Vic.advance_inside_line (by simpa [w] using h), State.vicRendered_h]

end Sys2Proof.Machine
end

section
/-! The PIA on the bus (R472 to R478) and the joystick signal (R480). -/

namespace Sys2Proof.Machine

/-! ### The bus at a PIA address (R70, R82) -/

theorem State.readByte_of_pia {s : State} {a : Word} {o : Nat} (h : s.chipAt a = (.pia, o)) :
    s.readByte a = s.pia.read s.cfg.dipSwitches s.sig o := by
  simp only [State.readByte, h]

theorem State.afterRead_of_pia {s : State} {a : Word} {o : Nat} (h : s.chipAt a = (.pia, o)) :
    s.afterRead a = s := by
  simp only [State.afterRead, State.drawsAt, h, Bool.false_eq_true, if_false]

/-- A write to the PIA reaches the PIA only, not the memory and not the VIC (R70, R82). -/
theorem State.writeByte_of_pia {s : State} {a : Word} {o : Nat} (h : s.chipAt a = (.pia, o))
    (v : Byte) : s.writeByte a v = { s with pia := s.pia.write o v } := by
  simp only [State.writeByte, State.memAfterWrite, State.vicAfterWrite, State.piaAfterWrite, h]

/-! ### A port's registers (R473, R477) -/

/-- The control byte as its fields appended below the two zero bits (R473). -/
theorem Port.control_eq_append (q : Port) :
    q.control = 0b00#2 ++ q.c2 ++ BitVec.ofBool q.acc ++ q.c1 := by
  unfold Port.control
  cases q.acc <;> rfl

/-- The number of appended bit strings, as `toNat_word` gives it for two bytes. -/
theorem toNat_append_eq_add {m n : Nat} (x : BitVec m) (y : BitVec n) :
    (x ++ y).toNat = x.toNat * 2 ^ n + y.toNat := by
  rw [BitVec.toNat_append, ← Nat.shiftLeft_add_eq_or_of_lt y.isLt, Nat.shiftLeft_eq]

theorem Port.toNat_control (q : Port) :
    q.control.toNat = q.c2.toNat * 8 + q.acc.toNat * 4 + q.c1.toNat := by
  rw [Port.control_eq_append]
  simp only [toNat_append_eq_add, BitVec.toNat_ofBool, BitVec.toNat_ofNat]
  omega

/-- The control byte written reads back without bits 7 and 6 (R473). -/
theorem Port.control_writeControl (q : Port) (v : Byte) :
    (q.writeControl v).control = v &&& 0x3F#8 := by
  have hmask : (v &&& 0x3F#8).toNat = v.toNat % 64 := by
    rw [BitVec.toNat_and]
    exact Nat.and_two_pow_sub_one_eq_mod v.toNat 6
  have hacc : (v.getLsbD 2).toNat = v.toNat / 4 % 2 := Nat.toNat_testBit v.toNat 2
  apply BitVec.eq_of_toNat_eq
  rw [Port.toNat_control, hmask]
  simp only [Port.writeControl, hacc, BitVec.extractLsb'_toNat, Nat.shiftRight_eq_div_pow]
  omega

@[simp] theorem Port.control_pinUpdate (q : Port) : q.pinUpdate.control = q.control := rfl

/-- The dip switches leave bit 7 free for the inverted joystick bit, so the two add (R477). -/
theorem extA_eq_ofNat (dip : BitVec 7) (sig : Byte) :
    extA dip sig = BitVec.ofNat 8 (dip.toNat + (if sig.getLsbD 7 then 0 else 0x80)) := by
  have hsum : (extA dip sig).toNat = dip.toNat + (if sig.getLsbD 7 then 0 else 0x80) := by
    have hdip : (dip.setWidth 8).toNat % 128 = dip.toNat := by simp; omega
    unfold extA
    cases sig.getLsbD 7
    · exact (toNat_low7_or_bit7 _ 1).trans (by rw [hdip]; rfl)
    · exact (toNat_low7_or_bit7 _ 0).trans (by rw [hdip]; rfl)
  rw [← hsum, BitVec.ofNat_toNat, BitVec.setWidth_eq]

/-! ### The PIA's reads and writes by the register selected (R472, R474, R475) -/

@[simp] theorem Pia.port_setPort (p : Pia) (k : PortId) (q : Port) : (p.setPort k q).port k = q := by
  cases k <;> rfl

theorem piaSelect_of_mod {o r : Nat} (h : o % 4 = r) :
    piaSelect o = (if r < 2 then .a else .b, decide (r % 2 = 1)) := by
  rw [piaSelect, h, ← Nat.mod_mod_of_dvd o (by decide : 2 ∣ 4), h]

section
variable {o : Nat} {k : PortId}

theorem Pia.read_control (h : piaSelect o = (k, true)) (p : Pia) (dip : BitVec 7) (sig : Byte) :
    p.read dip sig o = (p.port k).control := by
  rw [Pia.read, h]

theorem Pia.read_primary (h : piaSelect o = (k, false)) (p : Pia) (dip : BitVec 7) (sig : Byte) :
    p.read dip sig o = (p.port k).primary (ext dip sig k) := by
  rw [Pia.read, h]

theorem Pia.write_control (h : piaSelect o = (k, true)) (p : Pia) (v : Byte) :
    p.write o v = p.setPort k ((p.port k).writeControl v).pinUpdate := by
  rw [Pia.write, h]

theorem Pia.write_primary (h : piaSelect o = (k, false)) (p : Pia) (v : Byte) :
    p.write o v = p.setPort k ((p.port k).writePrimary v).pinUpdate := by
  rw [Pia.write, h]

theorem Pia.read_write_control (h : piaSelect o = (k, true)) (p : Pia) (v : Byte) (dip : BitVec 7)
    (sig : Byte) : (p.write o v).read dip sig o = v &&& 0x3F#8 := by
  rw [Pia.read_control h, Pia.write_control h, Pia.port_setPort, Port.control_pinUpdate,
    Port.control_writeControl]

end

/-- Settles O59: the offset selects the register, and the PIA's own read and write of that register are
those of its port, as the bus performs them. -/
theorem piaRegistersFollowTheirAccessMode : Obligations.PiaRegistersFollowTheirAccessMode := by
  intro s a o v ho pins control putControl putPrimary extPortA t
  have hread : s.readByte a = s.pia.read s.cfg.dipSwitches s.sig o := State.readByte_of_pia ho
  have hwrite : t = { s with pia := s.pia.write o v } := State.writeByte_of_pia ho v
  have hreread : t.readByte a = (s.pia.write o v).read s.cfg.dipSwitches s.sig o := by
    rw [hwrite]
    exact State.readByte_of_pia ho
  rw [hreread, hread, hwrite]
  refine ⟨State.afterRead_of_pia ho, rfl, rfl, fun h => ?_, fun h => ?_, fun h => ?_, fun h => ?_⟩
  · have hsel : piaSelect o = (.a, false) := piaSelect_of_mod h
    rw [Pia.read_primary hsel, Pia.write_primary hsel, ext, extA_eq_ofNat]
    exact ⟨rfl, rfl⟩
  · have hsel : piaSelect o = (.a, true) := piaSelect_of_mod h
    rw [Pia.read_write_control hsel, Pia.read_control hsel, Pia.write_control hsel]
    exact ⟨Port.toNat_control _, rfl, rfl⟩
  · have hsel : piaSelect o = (.b, false) := piaSelect_of_mod h
    rw [Pia.read_primary hsel, Pia.write_primary hsel]
    exact ⟨rfl, rfl⟩
  · have hsel : piaSelect o = (.b, true) := piaSelect_of_mod h
    rw [Pia.read_write_control hsel, Pia.read_control hsel, Pia.write_control hsel]
    exact ⟨Port.toNat_control _, rfl, rfl⟩

/-! ### The joystick signal (R480) -/

theorem State.getLsbD_buttonMask (s : State) (b : Button) (k : Nat) :
    (s.buttonMask b).getLsbD k = decide (k = (buttonBit s.cfg.buttonBit b).val) := by
  have hmask : s.buttonMask b = BitVec.twoPow 8 (buttonBit s.cfg.buttonBit b).val := rfl
  simp [hmask, BitVec.getLsbD_twoPow, eq_comm]

/-- The signal is a set of bits, not a counter: a release undoes any press of its button (R480). -/
@[simp] theorem State.signalReleased_signalPressed (s : State) (b : Button) :
    (s.signalPressed b).signalReleased b = s.signalReleased b := by
  have hsig : (s.sig ||| s.buttonMask b) &&& ~~~s.buttonMask b = s.sig &&& ~~~s.buttonMask b := by
    rw [BitVec.and_or_distrib_right, BitVec.and_not_self]
    exact BitVec.or_zero
  exact congrArg (fun sig => ({ s with sig := sig } : State)) hsig

/-- Settles O60: each bit of the signal from the same bit of the button's mask, which is set at the
button's bit alone. -/
theorem buttonsSetAndClearTheirBit : Obligations.ButtonsSetAndClearTheirBit := by
  intro s b n
  refine ⟨rfl, rfl, fun k hk => ⟨?pressed, ?released⟩, ?pressPressRelease⟩
  case pressed =>
    rw [State.signalPressed_sig, BitVec.getLsbD_or, State.getLsbD_buttonMask]
  case released =>
    rw [State.signalReleased_sig, BitVec.getLsbD_and, BitVec.getLsbD_not, State.getLsbD_buttonMask,
      decide_eq_true hk, Bool.true_and]
  case pressPressRelease =>
    rw [State.signalReleased_signalPressed, State.signalReleased_signalPressed]

end Sys2Proof.Machine
end

section
/-! What initialisation refuses (R521), and that no step refuses. -/

namespace Sys2Proof.Machine

/-! ### What a check that holds says of the configuration -/

theorem length_eq_of_romImagesSized {images : List (List Byte)} (h : romImagesSized images = true)
    {m : List Byte} (hm : m ∈ images) : m.length = 1024 :=
  of_decide_eq_true (List.all_eq_true.1 h m hm)

theorem exists_region_of_preloadFits {m : List Region} {q : Nat × List Byte}
    (h : preloadFits m q = true) : ∃ r ∈ m, r.base = q.1 ∧ r.size = q.2.length := by
  obtain ⟨r, hr, hfit⟩ := List.any_eq_true.1 h
  exact ⟨r, hr, of_decide_eq_true (Bool.and_eq_true_iff.1 hfit).1⟩

/-- In a disjoint map an address lies in the range of one index only (R74). -/
theorem index_eq_of_busMapDisjoint {m : List Region} (h : busMapDisjoint m = true) {i j a : Nat}
    (hi : i < m.length) (hj : j < m.length) (hai : m[i].base ≤ a ∧ a < m[i].base + m[i].size)
    (haj : m[j].base ≤ a ∧ a < m[j].base + m[j].size) : i = j := by
  have hsep := List.pairwise_iff_getElem.1 (of_decide_eq_true h)
  rcases Nat.lt_trichotomy i j with hlt | heq | hgt
  · have := hsep i j hi hj hlt
    omega
  · exact heq
  · have := hsep j i hj hi hgt
    omega

/-- A configuration that fails a check starts no machine (R521). -/
theorem startMachine_refused_of_configProblem {c : Config} {p : Profile}
    {images : List (List Byte)} {preloads : List (Nat × List Byte)}
    (h : configProblem c p images preloads ≠ none) (on : PowerOn) :
    ∃ r, startMachine c p images preloads on = .refused r := by
  obtain ⟨r, -, hr⟩ | ⟨hnone, -⟩ := startMachine_cases c p images preloads on
  · exact ⟨r, hr⟩
  · exact absurd hnone h

/-! ### Steps -/

theorem exec_answers_next (i : Instr) (s : State) : ∃ t, exec i s = .next t :=
  ⟨_, exec_eq_runForm i s⟩

/-- A step answers a next state, whatever is due: a stopped CPU, the rest of a sequence, the reset, an
interrupt, or an instruction with a documented opcode or without one (R74, R521). -/
theorem step_answers_next (s : State) : ∃ t, step s = .next t := by
  unfold step
  split
  case isTrue stopped => exact ⟨_, rfl⟩
  case isFalse running =>
    split
    case isTrue inside => exact ⟨_, rfl⟩
    case isFalse boundary =>
      cases s.cpu.nextSeq with
      | reset => exact ⟨_, rfl⟩
      | interrupt k => exact ⟨_, rfl⟩
      | instr =>
        cases decode s.fetchBytes with
        | ok d => exact exec_answers_next d.1 s
        | error e => exact ⟨_, rfl⟩

/-- Settles O36: a configuration that starts has passed every check of R521, and each clause contradicts
one of them; a step always answers a next state. -/
theorem badConfigurationsAreRefused : Obligations.BadConfigurationsAreRefused := by
  refine ⟨fun c p images preloads on hbad => ?_, step_answers_next⟩
  refine startMachine_refused_of_configProblem (fun hnone => ?_) on
  obtain ⟨hcount, hsize, hdisjoint, ⟨hspace, hcover⟩, -, hpreloads, hprofile⟩ :=
    configProblem_eq_none_iff.1 hnone
  obtain hmissing | ⟨m, hm, hlength⟩ | ⟨q, hq, hnofit⟩ | ⟨i, j, hi, hj, a, hne, hai, hai', haj, haj'⟩ |
    ⟨a, ha, hgap⟩ | hinvalid := hbad
  · exact hmissing (of_decide_eq_true hcount)
  · exact hlength (length_eq_of_romImagesSized hsize hm)
  · obtain ⟨r, hr, hbase, hfits⟩ := exists_region_of_preloadFits (List.all_eq_true.1 hpreloads q hq)
    exact hnofit r hr hbase hfits
  · exact hne (index_eq_of_busMapDisjoint hdisjoint hi hj ⟨hai, hai'⟩ ⟨haj, haj'⟩)
  · obtain ⟨r, hr, hin⟩ := exists_region hspace hdisjoint hcover ha
    have := hgap r hr
    omega
  · have hvalid := of_decide_eq_true hprofile
    omega

end Sys2Proof.Machine
end

section
/-! The query for the ready frame (R511). -/

namespace Sys2Proof.Machine

/-! ### The colours of a frame -/

theorem State.length_pixelIndices (s : State) (f : Frame) :
    (s.pixelIndices f).length = s.profile.width * s.profile.height := by
  simp [State.pixelIndices]

theorem State.getElem?_pixelIndices (s : State) (f : Frame) {i : Nat}
    (h : i < s.profile.width * s.profile.height) : (s.pixelIndices f)[i]? = some (f.pixels.get i) := by
  simp [State.pixelIndices, h]

/-! ### The machine after a frame is taken -/

/-- Writing a frame changes the two frames at most. -/
theorem Vic.setFrame_eq (w : Vic) (k : FrameId) (f : Frame) :
    w.setFrame k f = { w with frame0 := (w.setFrame k f).frame0, frame1 := (w.setFrame k f).frame1 } := by
  cases k <;> rfl

@[simp] theorem State.frameTaken_vic_active (s : State) : s.frameTaken.vic.active = s.vic.active :=
  s.vic.setFrame_active _ _

@[simp] theorem State.frame_other_frameTaken (s : State) :
    s.frameTaken.vic.frame s.vic.active.other =
      { s.vic.frame s.vic.active.other with ready := false } :=
  s.vic.frame_setFrame_same _ _

@[simp] theorem State.frame_active_frameTaken (s : State) :
    s.frameTaken.vic.frame s.vic.active = s.vic.frame s.vic.active :=
  s.vic.frame_setFrame_of_other _ _

/-! ### What the query answers -/

theorem State.getReadyFrame_of_not_ready {s : State}
    (h : (s.vic.frame s.vic.active.other).ready = false) : s.getReadyFrame = (none, s) := by
  simp [State.getReadyFrame, h]

theorem State.getReadyFrame_of_ready {s : State}
    (h : (s.vic.frame s.vic.active.other).ready = true) :
    s.getReadyFrame =
      (some ((s.pixelIndices (s.vic.frame s.vic.active.other)).map s.colour), s.frameTaken) := by
  simp [State.getReadyFrame, h]

/-- A frame taken is no longer ready, so a second query answers nothing (R511). -/
theorem State.getReadyFrame_frameTaken (s : State) :
    s.frameTaken.getReadyFrame = (none, s.frameTaken) :=
  State.getReadyFrame_of_not_ready (by simp)

/-- Settles O58: a ready frame's colours are those of its pixel indices in order, and the machine left is
the one whose frame is taken. -/
theorem readyFrameIsTakenOnce : Obligations.ReadyFrameIsTakenOnce := by
  intro s k f n
  refine ⟨State.getReadyFrame_of_not_ready, fun hready => ?_⟩
  rw [State.getReadyFrame_of_ready hready]
  refine ⟨⟨_, rfl, ?length, fun i hi => ?pixel⟩, ?ready, ?pixels, s.frame_active_frameTaken, ?frame,
    s.getReadyFrame_frameTaken⟩
  case length => exact (List.length_map _).trans (s.length_pixelIndices f)
  case pixel =>
    rw [List.getElem?_map, s.getElem?_pixelIndices f hi]
    rfl
  case ready => exact congrArg Frame.ready s.frame_other_frameTaken
  case pixels => exact (congrArg Frame.pixels s.frame_other_frameTaken :)
  case frame => exact congrArg (fun w => ({ s with vic := w } : State)) (s.vic.setFrame_eq _ _)

end Sys2Proof.Machine
end

section
/-! Decoding and encoding are inverse (R120 to R127). -/

namespace Sys2Proof

open Sys2Proof.Machine

/-! ### A format with its operand bytes -/

/-- The instruction of a format whose operand bytes are `lo` and, in format F3, `hi` (R121 to R123). -/
def Format.instr (lo hi : Byte) : Format → Instr
  | .f1 i => i
  | .f2 make => make lo
  | .f3 make => make (word hi lo)

/-- The operand bytes a format takes, low byte first (R121 to R123). -/
def Format.operand (lo hi : Byte) : Format → List Byte
  | .f1 _ => []
  | .f2 _ => [lo]
  | .f3 _ => [lo, hi]

theorem decode_of_format {op : Byte} {f : Format} (h : opcodeTable op = some f) (lo hi : Byte)
    (rest : List Byte) :
    decode (op :: f.operand lo hi ++ rest) = .ok (f.instr lo hi, rest) := by
  cases f <;> simp only [Format.operand, List.cons_append, List.nil_append, decode, h] <;> rfl

/-- What the decoder reads is an opcode of the table and the operand bytes of its format (R120). -/
theorem decode_eq_ok {bytes rest : List Byte} {i : Instr} (h : decode bytes = .ok (i, rest)) :
    ∃ op f lo hi, opcodeTable op = some f ∧ i = f.instr lo hi ∧
      bytes = op :: f.operand lo hi ++ rest := by
  unfold decode at h
  split at h
  next => cases h
  next op tail =>
    split at h
    next => cases h
    next j _ hop => cases h; exact ⟨op, .f1 _, 0#8, 0#8, hop, rfl, rfl⟩
    next make b _ hop => cases h; exact ⟨op, .f2 make, b, 0#8, hop, rfl, rfl⟩
    next make lo hi _ hop => cases h; exact ⟨op, .f3 make, lo, hi, hop, rfl, rfl⟩
    next => cases h

/-! ### The table and the encoder agree -/

/-- Every instruction is that of its opcode's format and its own operand bytes. -/
theorem exists_format (i : Instr) :
    ∃ f, opcodeTable i.opcode = some f ∧
      f.instr ((encode i).getD 1 0#8) ((encode i).getD 2 0#8) = i := by
  cases i
  all_goals
    refine ⟨_, rfl, ?_⟩
    simp only [Format.instr, encode, List.getD_cons_succ, List.getD_cons_zero, word_highByte_lowByte]

/-- The encoder writes the opcode under which the table holds a format, then its operand bytes. -/
theorem encode_instr {op : Byte} {f : Format} (h : opcodeTable op = some f) (lo hi : Byte) :
    encode (f.instr lo hi) = op :: f.operand lo hi := by
  unfold opcodeTable at h
  split at h
  all_goals cases h
  all_goals simp only [Format.instr, Format.operand, encode, lowByte_word, highByte_word]

/-- Settles O26: both directions pass through the opcode's format with the operand bytes. -/
theorem decodeAndEncodeAgree : Obligations.DecodeAndEncodeAgree := by
  refine ⟨fun i rest => ?_, fun bytes rest i h => ?_⟩
  · obtain ⟨f, hf, hinstr⟩ := exists_format i
    rw [← hinstr, encode_instr hf, decode_of_format hf]
  · obtain ⟨op, f, lo, hi, hf, rfl, rfl⟩ := decode_eq_ok h
    rw [encode_instr hf]

end Sys2Proof
end

section
/-! Decimal arithmetic on bytes of two decimal digits (R231, R233), and what the decoder makes of words
written out. -/

namespace Sys2Proof.Machine

/-! ### Numbers in decimal digits -/

/-- The byte is two decimal digits. -/
def IsDigits (b : Byte) : Prop := b.toNat / 16 < 10 ∧ b.toNat % 16 < 10

/-- The number two decimal digits stand for. -/
def digitsValue (b : Byte) : Int := 10 * (b.toNat / 16 : Nat) + (b.toNat % 16 : Nat)

/-- A number in tens and ones, each decimal digit in four bits, what is above them in the bits above. -/
def bcd (tens ones : Int) : Int := (tens + ones / 10) / 10 * 256 + (tens + ones / 10) % 10 * 16 + ones % 10

/-- The low byte of a number in decimal digits is the number modulo 100. -/
theorem digits_of_bcd {b : Byte} {tens ones : Int} (h : (b.toNat : Int) = bcd tens ones % 256) :
    IsDigits b ∧ digitsValue b = (10 * tens + ones) % 100 := by
  unfold bcd at h
  generalize hhigh : (tens + ones / 10) % 10 = high at h
  generalize hlow : ones % 10 = low at h
  have hbyte : (b.toNat : Int) = high * 16 + low := by omega
  have htens : ((b.toNat / 16 : Nat) : Int) = high := by omega
  have hones : ((b.toNat % 16 : Nat) : Int) = low := by omega
  unfold IsDigits digitsValue
  omega

theorem le_bcd_iff (tens ones : Int) : 0x100 ≤ bcd tens ones ↔ 100 ≤ 10 * tens + ones := by
  unfold bcd
  generalize hlow : ones % 10 = low
  generalize hhigh : (tens + ones / 10) % 10 = high
  omega

/-- The adjusted sum of two digits is a decimal carry in the half above and a digit (R231). -/
theorem decimal_low_sum {low : Nat} (h : low < 20) :
    (if 0x0A ≤ low then (low + 0x06) % 16 + 0x10 else low) = low / 10 * 16 + low % 10 := by
  split <;> omega

/-- The adjusted difference of two digits is a decimal borrow from the half above and a digit (R233). -/
theorem decimal_low_diff {low : Int} (h : -10 ≤ low) (h' : low < 10) :
    (if low < 0 then (low - 0x06) % 16 - 0x10 else low) = low / 10 * 16 + low % 10 := by
  split <;> omega

/-! ### The two operations -/

section
variable {a m : Byte} (ha : IsDigits a) (hm : IsDigits m) (c : Bool)
include ha hm

/-- The number of which `add_dec` takes the low byte and the carry (R231). -/
theorem addDec_number :
    ((if 0xA0 ≤ decSum a m c then decSum a m c + 0x60 else decSum a m c : Nat) : Int) =
      bcd (a.toNat / 16 + m.toNat / 16) (a.toNat % 16 + m.toNat % 16 + c.toNat) := by
  have hc := c.toNat_lt
  obtain ⟨hah, hal⟩ := ha
  obtain ⟨hmh, hml⟩ := hm
  have hsum : decSum a m c = a.toNat / 16 * 16 + m.toNat / 16 * 16 +
      ((a.toNat % 16 + m.toNat % 16 + c.toNat) / 10 * 16 +
        (a.toNat % 16 + m.toNat % 16 + c.toNat) % 10) :=
    congrArg (_ + ·) (decimal_low_sum (by omega))
  rw [hsum, bcd]
  split <;> omega

/-- The number of which `sub_dec` takes the low byte (R233). -/
theorem subDec_r :
    ((subDec a m c).r.toNat : Int) =
      bcd ((a.toNat / 16 : Nat) - (m.toNat / 16 : Nat))
        ((a.toNat % 16 : Nat) - (m.toNat % 16 : Nat) + c.toNat - 1) % 256 := by
  have hc := c.toNat_lt
  obtain ⟨hah, hal⟩ := ha
  obtain ⟨hmh, hml⟩ := hm
  have hlow := decimal_low_diff (low := (a.toNat % 16 : Nat) - (m.toNat % 16 : Nat) + c.toNat - 1)
    (by omega) (by omega)
  refine (toNat_ofInt_byte _).trans (congrArg (· % 256) ?_)
  simp only [hlow, bcd]
  split <;> omega

theorem addDec_of_digits :
    (IsDigits (addDec a m c).r ∧
      digitsValue (addDec a m c).r = (digitsValue a + digitsValue m + c.toNat) % 100) ∧
      (addDec a m c).c = decide (100 ≤ digitsValue a + digitsValue m + c.toNat) := by
  have hnumber := addDec_number ha hm c
  have hvalue : digitsValue a + digitsValue m + c.toNat =
      10 * (a.toNat / 16 + m.toNat / 16) + (a.toNat % 16 + m.toNat % 16 + c.toNat) := by
    unfold digitsValue
    omega
  rw [hvalue]
  constructor
  · apply digits_of_bcd
    rw [← hnumber]
    exact congrArg Nat.cast (BitVec.toNat_ofNat ..)
  · refine decide_eq_decide.2 (Nat.cast_le (α := Int).symm.trans ?_)
    exact (iff_of_eq (congrArg (_ ≤ ·) hnumber)).trans (le_bcd_iff ..)

theorem subDec_of_digits :
    (IsDigits (subDec a m c).r ∧
      digitsValue (subDec a m c).r = (digitsValue a - digitsValue m - (1 - c.toNat)) % 100) ∧
      (subDec a m c).c = decide (0 ≤ digitsValue a - digitsValue m - (1 - c.toNat)) := by
  have hvalue : digitsValue a - digitsValue m - (1 - c.toNat) =
      10 * ((a.toNat / 16 : Nat) - (m.toNat / 16 : Nat)) +
        ((a.toNat % 16 : Nat) - (m.toNat % 16 : Nat) + c.toNat - 1) := by
    unfold digitsValue
    omega
  rw [hvalue]
  refine ⟨digits_of_bcd (subDec_r ha hm c), decide_eq_decide.2 ?_⟩
  have hc := c.toNat_lt
  obtain ⟨hah, hal⟩ := ha
  obtain ⟨hmh, hml⟩ := hm
  omega

end

/-- Settles O24: both operations give the number in decimal digits; the binary borrow of `sub_dec` is the
decimal one. -/
theorem decimalArithmeticIsCorrectOnDecimalDigits :
    Obligations.DecimalArithmeticIsCorrectOnDecimalDigits := by
  intro a m c digits value ha hm
  obtain ⟨⟨hsum, hsum'⟩, hcarry⟩ := addDec_of_digits ha hm c
  obtain ⟨⟨hdiff, hdiff'⟩, hborrow⟩ := subDec_of_digits ha hm c
  exact ⟨⟨hsum, hsum', hcarry⟩, hdiff, hdiff', hborrow⟩

/-! ### Words written out -/

/-- Settles O28: the opcode table and the byte order of the operand, evaluated on each of the words. -/
theorem writtenWordsDecodeToTheirInstructions : Obligations.WrittenWordsDecodeToTheirInstructions :=
  ⟨rfl, rfl, rfl, rfl, rfl, rfl, rfl, rfl, rfl, rfl, rfl, rfl, rfl⟩

/-- Settles O29: at an instruction boundary none of the other branches of a step is taken. -/
theorem stepRunsTheDecodedInstruction : Obligations.StepRunsTheDecodedInstruction :=
  fun _ _ _ hat hdecode => step_of_decode hat hdecode

end Sys2Proof.Machine
end

section
/-! The rows of the cycle tables: what no row but an opcode fetch changes in the processor, and how long
the tables are (R37, R151). -/

namespace Sys2Proof.Machine

/-! ### Rows that leave the control of the processor alone -/

/-- What selects the rows to come (R37), what stops the processor (R38) and what interrupts it (R39). -/
structure Control where
  cyc        : Nat
  seq        : Seq
  ir         : Byte
  fault      : Option Fault
  nmiLine    : Bool
  irqLine    : Bool
  nmiPending : Bool

def Cpu.control (c : Cpu) : Control :=
  ⟨c.micro.cyc, c.micro.seq, c.micro.ir, c.fault, c.nmiLine, c.irqLine, c.nmiPending⟩

/-- A row whose update leaves the control alone, and that takes a byte of the instruction stream at PC
only.  Every row but the opcode fetch is one. -/
def Row.Plain (r : Row) : Prop :=
  (∀ b c, (r.update b c).control = c.control) ∧ (r.stream = true → ∀ c, r.access c = .read c.regs.pc)

theorem plain_exceptionRows (brk : Bool) (vector : Word) : ∀ r ∈ exceptionRows brk vector, r.Plain := by
  simp [exceptionRows, pushRow, Row.Plain, Cpu.control]

theorem plain_interruptRows (k : IntKind) : ∀ r ∈ interruptRows k, r.Plain := by
  have hdummy : dummyPcRow.Plain := ⟨fun _ _ => rfl, fun _ _ => rfl⟩
  exact List.forall_mem_cons.2 ⟨hdummy, List.forall_mem_cons.2 ⟨hdummy, plain_exceptionRows _ _⟩⟩

theorem plain_resetRows (sp : Byte) : ∀ r ∈ resetRows sp, r.Plain := by
  simp [resetRows, dummyPcRow, Row.Plain, Cpu.control]

theorem plain_addressRows (m : Mode) : ∀ r ∈ m.addressRows, r.Plain := by
  cases m <;> simp [Mode.addressRows, operandRow, Micro.addIndex, Row.Plain, Cpu.control]

theorem plain_dummyRawRow (m : Mode) : ∀ r ∈ if m.mayCross then [dummyRawRow] else [], r.Plain := by
  split <;> simp [dummyRawRow, Row.Plain]

theorem plain_executeRow (op : ReadOp) (ea : Micro → Word) : (executeRow op ea).Plain := by
  simp [executeRow, Row.Plain, Cpu.control]

/-- After the opcode fetch every row of an instruction's table leaves the control alone (R153). -/
theorem Form.plain_rows_tail (f : Form) : ∀ r ∈ f.rows.tail, r.Plain := by
  cases f
  case read op m =>
    cases m
    case imm => simp [Form.rows, readRows, immediateRows, Row.Plain, Cpu.control]
    case zp | zpX | zpY | abs | indX =>
      exact List.forall_mem_append.2 ⟨plain_addressRows _, by simpa using plain_executeRow ..⟩
    case absX | absY | indY =>
      refine List.forall_mem_append.2 ⟨plain_addressRows _, List.forall_mem_cons.2 ⟨⟨fun b c => ?_, nofun⟩,
        by simpa using plain_executeRow ..⟩⟩
      dsimp only
      split <;> rfl
  case write r m =>
    refine List.forall_mem_append.2 ⟨List.forall_mem_append.2 ⟨plain_addressRows m,
      plain_dummyRawRow m⟩, by simp [Row.Plain]⟩
  case rmw op m =>
    refine List.forall_mem_append.2 ⟨List.forall_mem_append.2 ⟨plain_addressRows m,
      plain_dummyRawRow m⟩, by simp [Row.Plain, Cpu.control]⟩
  case branch k =>
    simp only [Form.rows, branchRows, List.tail_cons, List.forall_mem_cons]
    refine ⟨by simp [Row.Plain, Cpu.control], ⟨fun b c => ?_, nofun⟩, by simp [Row.Plain, Cpu.control]⟩
    dsimp only
    split <;> rfl
  case brk =>
    exact List.forall_mem_cons.2 ⟨by simp [Row.Plain, Cpu.control], plain_exceptionRows _ _⟩
  case implied | jmpAbs | jmpInd | jsr | rts | rti | push | pull =>
    simp [Form.rows, impliedRows, jmpAbsRows, jmpIndRows, jsrRows, rtsRows, rtiRows, pushRows, pullRows,
      operandRow, dummyPcRow, dummyStackRow, pushRow, pullRow, Row.Plain, Cpu.control]

/-! ### The lengths of the tables -/

/-- Every table begins with the opcode fetch. -/
theorem Form.rows_eq_cons (f : Form) : f.rows = fetchRow :: f.rows.tail := by
  cases f
  case read op m => cases m <;> rfl
  case write | rmw | implied | branch | jmpAbs | jmpInd | jsr | rts | rti | brk | push | pull => rfl

/-- The tables of the documented instructions have two to seven rows (R37). -/
theorem length_rows_formOf (i : Instr) : 2 ≤ (formOf i).rows.length ∧ (formOf i).rows.length ≤ 7 := by
  cases i <;> exact ⟨Nat.le_of_ble_eq_true rfl, Nat.le_of_ble_eq_true rfl⟩

/-- The table that IR selects is that of an instruction, for an undocumented opcode that of NOP (R128,
R153). -/
theorem exists_instr_of_opcodeRows (ir : Byte) : ∃ i : Instr, opcodeRows ir = (formOf i).rows := by
  unfold opcodeRows formOfOpcode
  cases opcodeTable ir with
  | none => exact ⟨.nop, rfl⟩
  | some f =>
    cases f with
    | f1 i => exact ⟨i, rfl⟩
    | f2 make => exact ⟨make 0x00#8, rfl⟩
    | f3 make => exact ⟨make 0x0000#16, rfl⟩

theorem opcodeRows_opcode (i : Instr) : opcodeRows i.opcode = (formOf i).rows := by
  rw [opcodeRows, formOfOpcode_opcode]

theorem opcodeRows_of_undocumented {op : Byte} (h : documented op = false) :
    opcodeRows op = impliedRows .nop := by
  have hnone : opcodeTable op = none := by simpa [documented] using h
  simp [opcodeRows, formOfOpcode, hnone]

theorem State.length_seqRows (s : State) : 2 ≤ s.seqRows.length ∧ s.seqRows.length ≤ 7 := by
  unfold State.seqRows
  split
  next => exact ⟨Nat.le_of_ble_eq_true rfl, Nat.le_of_ble_eq_true rfl⟩
  next => exact ⟨Nat.le_of_ble_eq_true rfl, Nat.le_of_ble_eq_true rfl⟩
  next =>
    obtain ⟨i, hi⟩ := exists_instr_of_opcodeRows s.cpu.micro.ir
    exact hi ▸ length_rows_formOf i

/-- Every row of the running sequence but an instruction's opcode fetch leaves the control alone. -/
theorem State.plain_of_seqRows {s : State} {k : Nat} {r : Row} (hr : s.seqRows[k]? = some r)
    (hk : k ≠ 0 ∨ s.cpu.micro.seq ≠ .instr) : r.Plain := by
  unfold State.seqRows at hr
  split at hr
  next => exact plain_resetRows _ r (List.mem_of_getElem? hr)
  next => exact plain_interruptRows _ r (List.mem_of_getElem? hr)
  next hseq =>
    obtain ⟨i, hi⟩ := exists_instr_of_opcodeRows s.cpu.micro.ir
    obtain ⟨n, rfl⟩ := Nat.exists_eq_succ_of_ne_zero (hk.resolve_right (not_not.2 hseq))
    rw [hi, Form.rows_eq_cons, List.getElem?_cons_succ] at hr
    exact Form.plain_rows_tail _ r (List.mem_of_getElem? hr)

end Sys2Proof.Machine
end

section
/-! What one machine cycle does to the control of the processor (R37, R151, R502). -/

namespace Sys2Proof.Machine

/-! ### The row of a cycle -/

theorem State.rowCycle_cpu (s : State) (r : Row) (g : Option Byte) (f : Bool) :
    ∃ b, (s.rowCycle r g f).cpu = (r.update b s.cpu).endCycle (f || r.last b s.cpu) :=
  ⟨g.getD (s.vicStep.accessByte (r.access s.cpu)), by simp [State.rowCycle, State.rowStep]⟩

@[simp] theorem State.rowCycle_cfg (s : State) (r : Row) (g : Option Byte) (f : Bool) :
    (s.rowCycle r g f).cfg = s.cfg := by simp [State.rowCycle, State.rowStep]

@[simp] theorem Cpu.acceptInterrupt_fault (c : Cpu) (k : IntKind) :
    (c.acceptInterrupt k).fault = c.fault := by cases k <;> rfl
@[simp] theorem Cpu.acceptInterrupt_micro (c : Cpu) (k : IntKind) :
    (c.acceptInterrupt k).micro = { c.micro with cyc := 0, seq := .interrupt k } := by cases k <;> rfl
@[simp] theorem Cpu.acceptInterrupt_regs (c : Cpu) (k : IntKind) :
    (c.acceptInterrupt k).regs = c.regs := by cases k <;> rfl
@[simp] theorem Cpu.acceptInterrupt_nmiLine (c : Cpu) (k : IntKind) :
    (c.acceptInterrupt k).nmiLine = c.nmiLine := by cases k <;> rfl
@[simp] theorem Cpu.acceptInterrupt_irqLine (c : Cpu) (k : IntKind) :
    (c.acceptInterrupt k).irqLine = c.irqLine := by cases k <;> rfl

@[simp] theorem Cpu.beginSeq_fault (c : Cpu) : c.beginSeq.fault = c.fault := by
  unfold Cpu.beginSeq; split <;> simp
@[simp] theorem Cpu.beginSeq_micro (c : Cpu) :
    c.beginSeq.micro = { c.micro with cyc := 0, seq := c.nextSeq } := by
  unfold Cpu.beginSeq; split <;> simp [*]
@[simp] theorem Cpu.beginSeq_nmiLine (c : Cpu) : c.beginSeq.nmiLine = c.nmiLine := by
  unfold Cpu.beginSeq; split <;> simp
@[simp] theorem Cpu.beginSeq_irqLine (c : Cpu) : c.beginSeq.irqLine = c.irqLine := by
  unfold Cpu.beginSeq; split <;> simp

theorem State.beginIfBoundary_of_cyc_eq_zero {s : State} (h : s.cpu.micro.cyc = 0) :
    s.beginIfBoundary = s.withCpu s.cpu.beginSeq := if_pos h

theorem State.beginIfBoundary_of_cyc_ne_zero {s : State} (h : s.cpu.micro.cyc ≠ 0) :
    s.beginIfBoundary = s := if_neg h

@[simp] theorem State.beginIfBoundary_fault (s : State) :
    s.beginIfBoundary.cpu.fault = s.cpu.fault := by
  unfold State.beginIfBoundary; split <;> simp
@[simp] theorem State.beginIfBoundary_cfg (s : State) : s.beginIfBoundary.cfg = s.cfg := by
  unfold State.beginIfBoundary; split <;> simp
@[simp] theorem State.beginIfBoundary_nmiLine (s : State) :
    s.beginIfBoundary.cpu.nmiLine = s.cpu.nmiLine := by
  unfold State.beginIfBoundary; split <;> simp
@[simp] theorem State.beginIfBoundary_irqLine (s : State) :
    s.beginIfBoundary.cpu.irqLine = s.cpu.irqLine := by
  unfold State.beginIfBoundary; split <;> simp

theorem State.beginIfBoundary_vicStep (s : State) :
    s.vicStep.beginIfBoundary = s.beginIfBoundary.vicStep := by
  unfold State.beginIfBoundary
  rw [State.vicStep_cpu]
  split
  · rw [State.vicStep_withCpu]
  · rfl

theorem State.nextRow_vicStep (s : State) : s.vicStep.nextRow = s.nextRow := by
  simp only [State.nextRow, State.seqRows, State.vicStep_cpu, State.vicStep_cfg] <;> rfl

/-- A stopped CPU takes no part in a cycle (R502). -/
theorem State.machineCycle_of_fault {s : State} (h : s.cpu.fault.isSome = true) :
    s.machineCycle = s.vicStep := by
  simp [State.machineCycle, State.cpuStep, h]

section
variable {s : State} (hfault : s.cpu.fault = none)
include hfault

theorem State.machineCycle_of_nextRow {r : Row} {f : Bool}
    (h : s.beginIfBoundary.nextRow = some (r, f)) :
    s.machineCycle = s.beginIfBoundary.rowCycle r none f := by
  simp [State.machineCycle, State.cpuStep, hfault, State.beginIfBoundary_vicStep,
    State.nextRow_vicStep, h, State.rowCycle]

theorem State.machineCycle_of_nextRow_none (h : s.beginIfBoundary.nextRow = none) :
    s.machineCycle = s.beginIfBoundary.vicStep.startSeq .instr := by
  simp [State.machineCycle, State.cpuStep, hfault, State.beginIfBoundary_vicStep,
    State.nextRow_vicStep, h]

end

/-- What the next row can be: the opcode fetch, a row of the running table that leaves the control alone,
or none past the table's end (R151, R153). -/
theorem State.nextRow_cases (s : State) :
    (s.cpu.micro.cyc = 0 ∧ s.cpu.micro.seq = .instr ∧
      s.nextRow = some (opcodeRow s.cfg.illegalPolicy, false)) ∨
    (∃ r, r.Plain ∧ s.seqRows[s.cpu.micro.cyc]? = some r ∧
      s.nextRow = some (r, decide (s.cpu.micro.cyc + 1 = s.seqRows.length))) ∨
    s.nextRow = none := by
  unfold State.nextRow
  dsimp only
  split
  case isTrue h => exact .inl ⟨h.1, h.2, rfl⟩
  case isFalse h =>
    right
    cases hr : s.seqRows[s.cpu.micro.cyc]? with
    | none => exact .inr rfl
    | some r =>
      refine .inl ⟨r, State.plain_of_seqRows hr ?_, rfl, rfl⟩
      by_contra hk
      exact h (by tauto)

/-! ### The control after a cycle -/

theorem State.seqRows_congr {s t : State} (hcfg : t.cfg = s.cfg)
    (hseq : t.cpu.micro.seq = s.cpu.micro.seq) (hir : t.cpu.micro.ir = s.cpu.micro.ir) :
    t.seqRows = s.seqRows := by
  simp only [State.seqRows, hcfg, hseq, hir]

/-- The processor is inside its table, with a row still to run. -/
def State.Running (s : State) : Prop :=
  s.cpu.fault = none ∧ s.cpu.micro.cyc ≠ 0 ∧ s.cpu.micro.cyc < s.seqRows.length

theorem Cpu.control_endCycle (c : Cpu) (done : Bool) : (c.endCycle done).control =
    if done then { c.control with cyc := 0, seq := .instr }
    else { c.control with cyc := c.micro.cyc + 1 } := by cases done <;> rfl

theorem Cpu.cyc_eq_control (c : Cpu) : c.micro.cyc = c.control.cyc := rfl

/-- After a row that leaves the control alone the sequence has ended or goes on with the row after it. -/
theorem State.rowCycle_of_plain {s : State} {r : Row} (hr : r.Plain) (g : Option Byte) (f : Bool) :
    (s.rowCycle r g f).cpu.control = { s.cpu.control with cyc := 0, seq := .instr } ∨
    (f = false ∧ (s.rowCycle r g f).cpu.control = { s.cpu.control with cyc := s.cpu.micro.cyc + 1 }) := by
  obtain ⟨b, hb⟩ := s.rowCycle_cpu r g f
  rw [hb, Cpu.control_endCycle, hr.1 b, Cpu.cyc_eq_control, hr.1 b]
  cases hdone : f || r.last b s.cpu
  case true => exact .inl rfl
  case false => exact .inr ⟨(Bool.or_eq_false_iff.1 hdone).1, rfl⟩

end Sys2Proof.Machine
end

section
/-! A step is the single-cycle engine run to the next boundary (R37, R151, R179). -/

namespace Sys2Proof.Machine

/-! ### Where a cycle leaves the sequence -/

/-- The opcode fetch loads IR and goes on, or stops the processor at a boundary (R153, R613). -/
theorem State.rowCycle_opcodeRow (u : State) (policy : IllegalPolicy) (g : Option Byte) : ∃ ir,
    (∃ f, (u.rowCycle (opcodeRow policy) g false).cpu.control =
      { u.cpu.control with cyc := 0, seq := .instr, ir := ir, fault := f }) ∨
    (u.rowCycle (opcodeRow policy) g false).cpu.control =
      { u.cpu.control with cyc := u.cpu.micro.cyc + 1, ir := ir } := by
  obtain ⟨b, hb⟩ := u.rowCycle_cpu (opcodeRow policy) g false
  refine ⟨b, ?_⟩
  rw [hb, Cpu.control_endCycle]
  by_cases hstop : policy = .fault ∧ documented b = false
  · refine .inl ⟨some (.illegalOpcode u.cpu.regs.pc b), ?_⟩
    simp only [opcodeRow, if_pos hstop]
    simp [hstop, Cpu.control]
  · right
    simp only [opcodeRow, if_neg hstop]
    simp [hstop, Cpu.control]

/-- A cycle of the engine leaves the processor at an instruction boundary, or one row further in the
sequence it began or went on with, inside the table. -/
theorem State.control_machineCycle {s : State} (hfault : s.cpu.fault = none) : ∃ ir,
    (∃ f, s.machineCycle.cpu.control =
      { s.beginIfBoundary.cpu.control with cyc := 0, seq := .instr, ir := ir, fault := f }) ∨
    (s.machineCycle.cpu.control =
        { s.beginIfBoundary.cpu.control with cyc := s.beginIfBoundary.cpu.micro.cyc + 1, ir := ir } ∧
      s.beginIfBoundary.cpu.micro.cyc + 1 < s.machineCycle.seqRows.length) := by
  rcases s.beginIfBoundary.nextRow_cases with ⟨hcyc, hseq, hrow⟩ | ⟨r, hr, hget, hrow⟩ | hrow
  · rw [State.machineCycle_of_nextRow hfault hrow]
    obtain ⟨ir, hstop | hgo⟩ := s.beginIfBoundary.rowCycle_opcodeRow _ none
    · exact ⟨ir, .inl hstop⟩
    · refine ⟨ir, .inr ⟨hgo, ?_⟩⟩
      have hlen := (s.beginIfBoundary.rowCycle (opcodeRow s.beginIfBoundary.cfg.illegalPolicy) none
        false).length_seqRows.1
      omega
  · rw [State.machineCycle_of_nextRow hfault hrow]
    refine ⟨s.beginIfBoundary.cpu.micro.ir, ?_⟩
    rcases State.rowCycle_of_plain hr none _ with hend | ⟨hlast, hgo⟩
    · exact .inl ⟨_, hend⟩
    · refine .inr ⟨hgo, ?_⟩
      rw [State.seqRows_congr (State.rowCycle_cfg ..) (congrArg Control.seq hgo) (congrArg Control.ir hgo)]
      have hin := (List.getElem?_eq_some_iff.1 hget).1
      have hne := of_decide_eq_false hlast
      omega
  · rw [State.machineCycle_of_nextRow_none hfault hrow]
    exact ⟨s.beginIfBoundary.cpu.micro.ir, .inl ⟨s.cpu.fault, by simp [Cpu.control]⟩⟩

/-- After a cycle the processor is at a boundary or inside its table. -/
theorem State.boundary_or_running {s : State} (hfault : s.cpu.fault = none) :
    (s.machineCycle.cpu.micro.cyc = 0 ∧ s.machineCycle.cpu.micro.seq = .instr) ∨
      s.machineCycle.Running := by
  obtain ⟨ir, ⟨f, hend⟩ | ⟨hgo, hin⟩⟩ := State.control_machineCycle hfault
  · exact .inl ⟨congrArg Control.cyc hend, congrArg Control.seq hend⟩
  · have hcyc : s.machineCycle.cpu.micro.cyc = _ := congrArg Control.cyc hgo
    have hf : s.machineCycle.cpu.fault = s.beginIfBoundary.cpu.fault := congrArg Control.fault hgo
    refine .inr ⟨by rw [hf, State.beginIfBoundary_fault, hfault], ?_, ?_⟩
    · rw [hcyc]; exact Nat.succ_ne_zero _
    · rw [hcyc]; exact hin

/-! ### The engine on the rows of a table -/

/-- The bytes of `stream` are those the bus gives at PC in the cycles of `rows` that fetch one, when the
engine runs them from `t`. -/
def State.Feeds : List Row → List Byte → State → Prop
  | [], _, _ => True
  | r :: rest, stream, t =>
    (r.stream = true → ∀ b, stream.head? = some b → t.byteAtPc = b) ∧
      State.Feeds rest (if r.stream then stream.tail else stream) t.machineCycle

theorem State.feeds_nil (rows : List Row) (t : State) : State.Feeds rows [] t := by
  induction rows generalizing t with
  | nil => trivial
  | cons r rest ih => exact ⟨by simp, by simpa using ih _⟩

/-- A byte given in place of the byte read changes nothing if it is the byte at PC. -/
theorem State.rowCycle_of_given {t : State} {r : Row} {b : Byte} (hr : r.Plain) (hs : r.stream = true)
    (hb : t.byteAtPc = b) (f : Bool) : t.rowCycle r (some b) f = t.rowCycle r none f := by
  rw [State.rowCycle_of_read (hr.2 hs _), State.rowCycle_of_read (hr.2 hs _)]
  have hread : t.readAt t.cpu.regs.pc = b := hb
  simp [hread]

/-- Inside a table the engine runs to the next boundary what is left of the table. -/
theorem State.finish_eq_runRows {rest : List Row} {stream : List Byte} {n : Nat} {t : State}
    (hne : rest ≠ []) (hn : rest.length ≤ n) (hplain : ∀ r ∈ rest, r.Plain) (hfault : t.cpu.fault = none)
    (hcyc : t.cpu.micro.cyc ≠ 0) (hrows : t.seqRows.drop t.cpu.micro.cyc = rest)
    (hfeeds : State.Feeds rest stream t) : State.finish n t = State.runRows rest stream t := by
  induction rest generalizing stream n t with
  | nil => exact absurd rfl hne
  | cons r rest ih =>
    obtain ⟨n, rfl⟩ := Nat.exists_eq_succ_of_ne_zero (Nat.ne_of_gt (Nat.lt_of_lt_of_le (Nat.succ_pos _) hn))
    have hr : r.Plain := hplain r (List.mem_cons_self ..)
    have hget : t.seqRows[t.cpu.micro.cyc]? = some r := by
      rw [← List.head?_drop, hrows]; rfl
    have hlen : t.seqRows.length = t.cpu.micro.cyc + (rest.length + 1) := by
      have hdrop := congrArg List.length hrows
      have hin := (List.getElem?_eq_some_iff.1 hget).1
      rw [List.length_drop, List.length_cons] at hdrop
      omega
    have hlast : decide (t.cpu.micro.cyc + 1 = t.seqRows.length) = rest.isEmpty := by
      rw [hlen]; cases rest <;> simp
    have hrun : t.rowCycle r (if r.stream then stream.head? else none) rest.isEmpty = t.machineCycle := by
      rw [State.machineCycle_of_row hfault hcyc hget, hlast]
      cases hs : r.stream
      · rfl
      · cases hb : stream.head? with
        | none => rfl
        | some b => exact State.rowCycle_of_given hr hs (hfeeds.1 hs b hb) _
    rw [State.finish, if_neg hcyc, State.runRows, hrun]
    by_cases hend : t.machineCycle.cpu.micro.cyc = 0
    · rw [if_pos hend]
      cases n <;> simp [State.finish, hend]
    · rw [if_neg hend]
      rcases State.rowCycle_of_plain hr (if r.stream then stream.head? else none) rest.isEmpty
        with hbound | ⟨hmore, hgo⟩
      · rw [hrun] at hbound
        exact absurd (congrArg Control.cyc hbound) hend
      · rw [hrun] at hgo
        have hcyc' : t.machineCycle.cpu.micro.cyc = t.cpu.micro.cyc + 1 := congrArg Control.cyc hgo
        have hrows' : t.machineCycle.seqRows = t.seqRows :=
          State.seqRows_congr (State.machineCycle_cfg t) (congrArg Control.seq hgo) (congrArg Control.ir hgo)
        refine ih (by rintro rfl; simp at hmore) (Nat.le_of_succ_le_succ hn)
          (fun q hq => hplain q (List.mem_cons_of_mem _ hq)) ((congrArg Control.fault hgo).trans hfault) hend
          ?_ hfeeds.2
        rw [hrows', hcyc', ← List.drop_drop, hrows]
        rfl

end Sys2Proof.Machine
end

section
/-! Each kind of step as the engine's run to the next boundary (R151, R179). -/

namespace Sys2Proof.Machine

/-- A sequence whose first row a cycle runs without ending it: the engine runs the table. -/
theorem State.toBoundary_eq_runRows {s t : State} {r : Row} {rest : List Row} {stream : List Byte}
    (hrun : t.rowCycle r (if r.stream then stream.head? else none) rest.isEmpty = s.machineCycle)
    (hfault : s.machineCycle.cpu.fault = none) (hcyc : s.machineCycle.cpu.micro.cyc = 1)
    (hrows : s.machineCycle.seqRows = r :: rest) (hplain : ∀ q ∈ rest, q.Plain)
    (hfeeds : State.Feeds rest (if r.stream then stream.tail else stream) s.machineCycle) :
    s.toBoundary = State.runRows (r :: rest) stream t := by
  have hlen := s.machineCycle.length_seqRows
  rw [hrows, List.length_cons] at hlen
  have hne : rest ≠ [] := by rintro rfl; simp at hlen
  have hnz : s.machineCycle.cpu.micro.cyc ≠ 0 := by simp [hcyc]
  rw [State.runRows, hrun, if_neg hnz]
  exact State.finish_eq_runRows hne (by omega) hplain hfault hnz (by rw [hrows, hcyc]; rfl) hfeeds

/-! ### Exceptions -/

/-- A sequence that begins with a dummy read of the byte at PC. -/
theorem State.toBoundary_of_dummyPcRow {s t : State} {rest : List Row} (hfault : s.cpu.fault = none)
    (hbegin : s.beginIfBoundary = t) (hcyc : t.cpu.micro.cyc = 0) (hseq : t.cpu.micro.seq ≠ .instr)
    (hrows : t.seqRows = dummyPcRow :: rest) (hplain : ∀ q ∈ rest, q.Plain) :
    s.toBoundary = State.runRows (dummyPcRow :: rest) [] t := by
  have hlen := t.length_seqRows
  rw [hrows, List.length_cons] at hlen
  have hempty : rest.isEmpty = false := by cases rest <;> simp_all
  have hnext : s.beginIfBoundary.nextRow = some (dummyPcRow, rest.isEmpty) := by
    rw [hbegin]
    simp only [State.nextRow, hcyc, hseq, and_false, if_false, hrows]
    simp
    cases rest <;> simp
  have hrun : s.machineCycle = t.rowCycle dummyPcRow none false := by
    rw [State.machineCycle_of_nextRow hfault hnext, hbegin, hempty]
  have hcycle : s.machineCycle = (t.readCycle t.cpu.regs.pc).withCpu (t.cpu.endCycle false) := by
    rw [hrun, State.rowCycle_of_read (a := t.cpu.regs.pc) rfl]; rfl
  refine State.toBoundary_eq_runRows (by rw [hempty, hrun]; rfl) ?_ ?_ ?_ hplain (State.feeds_nil ..)
  · rw [hcycle]; simpa [← hbegin] using hfault
  · simp [hcycle, hcyc]
  · rw [← hrows]; exact State.seqRows_congr (by simp [hcycle]) (by simp [hcycle]) (by simp [hcycle])

theorem State.beginIfBoundary_of_reset {s : State} (hcyc : s.cpu.micro.cyc = 0)
    (hseq : s.cpu.nextSeq = .reset) : s.beginIfBoundary = s.startSeq .reset := by
  rw [State.beginIfBoundary_of_cyc_eq_zero hcyc, Cpu.beginSeq, hseq]; rfl

theorem State.beginIfBoundary_of_interrupt {s : State} {k : IntKind} (hcyc : s.cpu.micro.cyc = 0)
    (hseq : s.cpu.nextSeq = .interrupt k) :
    s.beginIfBoundary = s.withCpu (s.cpu.acceptInterrupt k) := by
  rw [State.beginIfBoundary_of_cyc_eq_zero hcyc, Cpu.beginSeq, hseq]

theorem State.beginIfBoundary_of_instr {s : State} (hcyc : s.cpu.micro.cyc = 0)
    (hseq : s.cpu.nextSeq = .instr) : s.beginIfBoundary = s.startSeq .instr := by
  rw [State.beginIfBoundary_of_cyc_eq_zero hcyc, Cpu.beginSeq, hseq]; rfl

theorem State.toBoundary_of_reset {s : State} (hfault : s.cpu.fault = none) (hcyc : s.cpu.micro.cyc = 0)
    (hseq : s.cpu.nextSeq = .reset) : s.toBoundary = s.runReset := by
  refine State.toBoundary_of_dummyPcRow hfault (State.beginIfBoundary_of_reset hcyc hseq) (by simp)
    (by simp) (by simp [State.seqRows, resetRows]) fun q hq =>
      plain_resetRows s.cfg.resetSp q (List.mem_cons_of_mem _ hq)

theorem State.toBoundary_of_interrupt {s : State} {k : IntKind} (hfault : s.cpu.fault = none)
    (hcyc : s.cpu.micro.cyc = 0) (hseq : s.cpu.nextSeq = .interrupt k) :
    s.toBoundary = s.takeInterrupt k := by
  refine State.toBoundary_of_dummyPcRow hfault (State.beginIfBoundary_of_interrupt hcyc hseq) (by simp)
    (by simp) (by simp [State.seqRows, interruptRows]) fun q hq =>
      plain_interruptRows k q (List.mem_cons_of_mem _ hq)

/-! ### The operand bytes in the tables -/

/-- The second byte of a two-byte instruction is fetched in c2 (R157 to R165, R169). -/
theorem exists_operand_row {i : Instr} (h : (encode i).length = 2) :
    ∃ r q, (formOf i).rows.tail = r :: q ∧ r.stream = true := by
  rw [length_encode] at h
  cases hf : formOf i
  all_goals rw [hf] at h
  case read _ m =>
    cases m
    case imm | zp | zpX | zpY | indX | indY => exact ⟨_, _, rfl, rfl⟩
    case abs | absX | absY => cases h
  case write _ m =>
    cases m
    case imm => exact absurd rfl (mode_ne_imm_of_write hf)
    case zp | zpX | zpY | indX | indY => exact ⟨_, _, rfl, rfl⟩
    case abs | absX | absY => cases h
  case rmw _ m =>
    cases m
    case imm => exact absurd rfl (mode_ne_imm_of_rmw hf)
    case zp | zpX | zpY | indX | indY => exact ⟨_, _, rfl, rfl⟩
    case abs | absX | absY => cases h
  case branch => exact ⟨_, _, rfl, rfl⟩
  case implied | jmpAbs | jmpInd | jsr | rts | rti | brk | push | pull => cases h

/-- The operand of a three-byte instruction other than JSR is fetched in c2 and c3 (R161 to R164, R299). -/
theorem Form.exists_operand_rows {f : Form} (h : f.length = 3) (hjsr : f ≠ .jsr) :
    ∃ r r' q, f.rows.tail = r :: r' :: q ∧ r.stream = true ∧ r'.stream = true := by
  cases f
  case read _ m | write _ m | rmw _ m =>
    cases m
    case abs | absX | absY => exact ⟨_, _, _, rfl, rfl, rfl⟩
    case imm | zp | zpX | zpY | indX | indY => cases h
  case jmpAbs | jmpInd => exact ⟨_, _, _, rfl, rfl, rfl⟩
  case jsr => exact absurd rfl hjsr
  case branch | implied | rts | rti | brk | push | pull => cases h

theorem opcode_eq_jsr_iff (i : Instr) : i.opcode = 0x20#8 ↔ formOf i = .jsr := by
  constructor
  · exact fun h => formOf_eq_of_opcode_eq (j := .jsr 0x0000#16) h
  · intro h
    cases i
    case jsr => rfl
    all_goals cases h

/-- The bytes of the instruction read at PC are those its cycle table fetches (R150, R179). -/
theorem State.feeds_of_fetchBytes {s : State} {i : Instr} {rest : List Byte}
    (hbytes : s.fetchBytes = encode i ++ rest) :
    State.Feeds (formOf i).rows.tail (encode i).tail s.machineCycle := by
  have hbounds := encode_length_bounds i
  match henc : encode i with
  | [] => simp [henc] at hbounds
  | [o] => exact State.feeds_nil ..
  | [o, b] =>
    obtain ⟨r, q, hrows, hr⟩ := exists_operand_row (i := i) (by rw [henc]; rfl)
    rw [henc] at hbytes
    simp only [State.fetchBytes, List.cons_append, List.cons.injEq] at hbytes
    obtain ⟨-, hb, -⟩ := hbytes
    rw [hrows]
    refine ⟨fun _ _ h => by cases h; exact hb, ?_⟩
    simpa [hr] using State.feeds_nil ..
  | [o, b, b'] =>
    have hop : i.opcode = o := by rw [Instr.opcode, henc]; rfl
    have hlen : (formOf i).length = 3 := by rw [← length_encode, henc]; rfl
    rw [henc] at hbytes
    simp only [State.fetchBytes, List.cons_append, List.cons.injEq] at hbytes
    obtain ⟨ho, hb, hb', -⟩ := hbytes
    rw [ho, ← hop] at hb'
    by_cases hjsr : formOf i = .jsr
    · rw [if_pos ((opcode_eq_jsr_iff i).2 hjsr)] at hb'
      rw [hjsr]
      refine ⟨fun _ _ h => by cases h; exact hb, by simp [dummyStackRow], by simp [pushRow],
        by simp [pushRow], fun _ _ h => by cases h; exact hb', trivial⟩
    · rw [if_neg (mt (opcode_eq_jsr_iff i).1 hjsr)] at hb'
      obtain ⟨r, r', q, hrows, hr, hr'⟩ := Form.exists_operand_rows hlen hjsr
      rw [hrows]
      refine ⟨fun _ _ h => by cases h; exact hb, ?_⟩
      simp only [hr, if_true, List.tail_cons]
      refine ⟨fun _ _ h => by cases h; exact hb', ?_⟩
      simpa [hr'] using State.feeds_nil ..
  | _ :: _ :: _ :: _ :: _ => exact absurd hbounds.2 (by simp [henc])

/-! ### Instructions -/

section
variable {s : State} (h : s.atInstr)
include h

/-- An opcode fetch that goes on: the engine runs the table that the opcode selects. -/
theorem State.toBoundary_of_opcode {rest : List Row} {stream : List Byte}
    (hgo : s.cfg.illegalPolicy = .fault → documented s.byteAtPc = true)
    (hrows : opcodeRows s.byteAtPc = fetchRow :: rest) (hplain : ∀ q ∈ rest, q.Plain)
    (hhead : stream.head? = some s.byteAtPc)
    (hfeeds : State.Feeds rest stream.tail s.machineCycle) :
    s.toBoundary = State.runRows (fetchRow :: rest) stream (s.startSeq .instr) := by
  have hempty : rest.isEmpty = false := by
    have hlen := ((s.startSeq .instr).withCpu { s.cpu with micro :=
      { s.cpu.micro with seq := .instr, ir := s.byteAtPc } }).length_seqRows.1
    simp only [State.seqRows, State.withCpu_cpu, hrows] at hlen
    cases rest <;> simp_all
  have hstop : ¬ (s.cfg.illegalPolicy = .fault ∧ documented s.byteAtPc = false) := by
    rintro ⟨hp, hd⟩
    simp [hgo hp] at hd
  have hlast : (decide (s.cfg.illegalPolicy = .fault) && !documented s.byteAtPc) = false := by
    simpa [imp_iff_not_or] using hgo
  have hread : s.readAt s.cpu.regs.pc = s.byteAtPc := rfl
  have hcycle : s.machineCycle = (s.readCycle s.cpu.regs.pc).withCpu
      ((((s.cpu.startSeq .instr).latch fun m => { m with ir := s.byteAtPc }).incPc).endCycle false) := by
    rw [State.machineCycle_of_atInstr h, State.rowCycle_of_read (a := s.cpu.regs.pc) rfl]
    simp [opcodeRow, hread, hstop, hlast, State.startSeq]
  refine State.toBoundary_eq_runRows ?_ ?_ ?_ ?_ hplain hfeeds
  · rw [hcycle, hempty, State.rowCycle_of_read (a := s.cpu.regs.pc) rfl]
    simp [fetchRow, hhead, State.startSeq]
  · simpa [hcycle] using h.1
  · simp [hcycle]
  · rw [← hrows]; simp [hcycle, State.seqRows]

/-- A documented instruction: the engine runs its meaning. -/
theorem State.toBoundary_of_decode {i : Instr} {rest : List Byte}
    (hd : decode s.fetchBytes = .ok (i, rest)) :
    s.toBoundary = s.runForm (formOf i) (encode i) := by
  have hbytes : s.fetchBytes = encode i ++ rest := (decodeAndEncodeAgree.2 _ _ _ hd).symm
  have hbounds := encode_length_bounds i
  have hhead : (encode i).head? = some s.byteAtPc := by
    have hfirst := congrArg List.head? hbytes
    cases henc : encode i with
    | nil => simp [henc] at hbounds
    | cons o l => rw [henc] at hfirst; exact hfirst.symm
  have hop : i.opcode = s.byteAtPc := by
    rw [Instr.opcode, List.headD_eq_head?_getD, hhead]; rfl
  rw [State.runForm, Form.rows_eq_cons]
  refine State.toBoundary_of_opcode h (fun _ => ?_) ?_ (Form.plain_rows_tail _) hhead
    (State.feeds_of_fetchBytes hbytes)
  · rw [← hop, documented_opcode]
  · rw [← hop, opcodeRows_opcode, ← Form.rows_eq_cons]

/-- An undocumented opcode: the engine does what the policy says. -/
theorem State.toBoundary_of_undocumented (hd : documented s.byteAtPc = false) :
    s.toBoundary = s.takeIllegal s.byteAtPc := by
  cases hp : s.cfg.illegalPolicy with
  | nop2 =>
    rw [State.takeIllegal_nop2 hp]
    refine State.toBoundary_of_opcode h (by simp [hp]) (opcodeRows_of_undocumented hd)
      (Form.plain_rows_tail (.implied .nop)) rfl (State.feeds_nil ..)
  | fault =>
    have hread : s.readAt s.cpu.regs.pc = s.byteAtPc := rfl
    have hcycle : s.machineCycle = s.takeIllegal s.byteAtPc := by
      rw [State.machineCycle_of_atInstr h]
      simp only [State.takeIllegal, hp, State.runRows_singleton]
      rw [State.rowCycle_of_read (a := s.cpu.regs.pc) rfl, State.rowCycle_of_read (a := s.cpu.regs.pc) rfl]
      simp [opcodeRow, hread, hd, State.startSeq]
    have hcyc : s.machineCycle.cpu.micro.cyc = 0 := by
      rw [hcycle]
      simp only [State.takeIllegal, hp, State.runRows_singleton]
      rw [State.rowCycle_of_read (a := s.cpu.regs.pc) rfl]
      simp
    rw [State.toBoundary, ← hcycle, State.finish, if_pos hcyc]

end

/-- The three bytes fetched are enough for any documented opcode (R120). -/
theorem exists_decode_of_documented {op : Byte} (h : documented op = true) (lo hi : Byte) :
    ∃ i rest, decode [op, lo, hi] = .ok (i, rest) := by
  obtain ⟨f, hf⟩ := Option.isSome_iff_exists.1 h
  cases f with
  | f1 i => exact ⟨_, _, decode_of_format hf lo hi [lo, hi]⟩
  | f2 make => exact ⟨_, _, decode_of_format hf lo hi [hi]⟩
  | f3 make => exact ⟨_, _, decode_of_format hf lo hi []⟩

/-- A step of a processor that runs is the engine's run to the next boundary (R151, R179). -/
theorem step_eq_toBoundary {s : State} (hfault : s.cpu.fault = none) : step s = .next s.toBoundary := by
  by_cases hcyc : s.cpu.micro.cyc = 0
  case neg => simp [step, hfault, hcyc]
  cases hseq : s.cpu.nextSeq with
  | reset => simp [step, hfault, hcyc, hseq, State.toBoundary_of_reset]
  | interrupt k => simp [step, hfault, hcyc, hseq, State.toBoundary_of_interrupt]
  | instr =>
    have h : s.atInstr := ⟨hfault, hcyc, hseq⟩
    cases hdoc : documented s.byteAtPc with
    | false => rw [step_of_undocumented h hdoc, State.toBoundary_of_undocumented h hdoc]
    | true =>
      obtain ⟨i, rest, hd⟩ : ∃ i rest, decode s.fetchBytes = .ok (i, rest) :=
        exists_decode_of_documented hdoc _ _
      rw [step_of_decode h hd, exec_eq_runForm, State.toBoundary_of_decode h hd]

/-! ### The run to the boundary -/

/-- The run to a boundary is some number of cycles, at most as many as it may take. -/
theorem State.exists_finish_eq_cycles (n : Nat) (t : State) :
    ∃ m, m ≤ n ∧ State.finish n t = State.cycles m t := by
  induction n generalizing t with
  | zero => exact ⟨0, le_rfl, rfl⟩
  | succ n ih =>
    by_cases hcyc : t.cpu.micro.cyc = 0
    · exact ⟨0, Nat.zero_le _, by rw [State.finish, if_pos hcyc]; rfl⟩
    · obtain ⟨m, hm, h⟩ := ih t.machineCycle
      exact ⟨m + 1, Nat.succ_le_succ hm, by rw [State.finish, if_neg hcyc, h]; rfl⟩

/-- The rows of a table end at a boundary. -/
theorem State.cyc_runRows {rows : List Row} (hne : rows ≠ []) (stream : List Byte) (t : State) :
    (State.runRows rows stream t).cpu.micro.cyc = 0 := by
  induction rows generalizing stream t with
  | nil => exact absurd rfl hne
  | cons r rest ih =>
    cases rest with
    | nil =>
      rw [State.runRows_singleton]
      obtain ⟨b, hb⟩ := t.rowCycle_cpu r (if r.stream then stream.head? else none) true
      simp [hb]
    | cons q rest =>
      rw [State.runRows]
      generalize (if r.stream = true then stream.head? else none) = g
      split
      next hcyc => exact hcyc
      next => exact ih (List.cons_ne_nil q rest) _ _

/-- The seven cycles of a step suffice: no table is longer (R37). -/
theorem State.cyc_toBoundary {s : State} (hfault : s.cpu.fault = none) :
    s.toBoundary.cpu.micro.cyc = 0 := by
  rcases State.boundary_or_running hfault with ⟨hcyc, -⟩ | ⟨hf, hcyc, hin⟩
  · rw [State.toBoundary, State.finish, if_pos hcyc]; exact hcyc
  · have hlen := s.machineCycle.length_seqRows
    have hne : s.machineCycle.seqRows.drop s.machineCycle.cpu.micro.cyc ≠ [] := by
      simpa using hin
    rw [State.toBoundary, State.finish_eq_runRows hne (by rw [List.length_drop]; omega) ?_ hf hcyc rfl
      (State.feeds_nil ..)]
    · exact State.cyc_runRows hne ..
    · intro r hr
      obtain ⟨k, hk⟩ := List.getElem?_of_mem hr
      rw [List.getElem?_drop] at hk
      exact State.plain_of_seqRows hk (.inl (by omega))

/-- Settles O31: each kind of step runs a table whose rows the engine runs too, and no table is longer
than seven rows. -/
theorem stepIsTheCycleEngineToTheNextBoundary : Obligations.StepIsTheCycleEngineToTheNextBoundary := by
  refine ⟨step_answers_next, fun s hfault => step_eq_toBoundary hfault, fun s hfault _ =>
    ⟨State.cyc_toBoundary hfault, ?_⟩⟩
  obtain ⟨m, hm, h⟩ := State.exists_finish_eq_cycles 6 s.machineCycle
  exact ⟨m + 1, by omega, by omega, h⟩

end Sys2Proof.Machine
end

section
/-! What a machine cycle keeps of the memory, the VIC and the PIA (R40 to R45, R70, R417, R425, R482). -/

namespace Sys2Proof.Machine

/-! ### Memory -/

theorem State.memOk_writeByte {s : State} (h : s.memOk) (a : Word) (v : Byte) :
    (s.writeByte a v).memOk := by
  refine ⟨Memory.wf_writeByte h.1 a v, fun p hp => ?_⟩
  simp only [State.writeByte, State.memAfterWrite] at hp ⊢
  split at hp
  next hram =>
    rcases Cells.mem_set hp with hp | rfl
    · exact h.2 p hp
    · exact ⟨busAddr_lt a, .inl hram⟩
  next hnibble =>
    rcases Cells.mem_set hp with hp | rfl
    · exact h.2 p hp
    · refine ⟨busAddr_lt a, .inr (.inr ⟨hnibble, ?_⟩)⟩
      rw [BitVec.toNat_and]
      exact Nat.lt_of_le_of_lt Nat.and_le_right (by decide)
  next => exact h.2 p hp

/-! ### The PIA -/

@[simp] theorem Port.latch_pinUpdate (q : Port) : q.pinUpdate.latch = q.latch := rfl
@[simp] theorem Port.latch_writeControl (q : Port) (v : Byte) : (q.writeControl v).latch = q.latch := rfl
@[simp] theorem Port.latch_writePrimary (q : Port) (v : Byte) : (q.writePrimary v).latch = q.latch := by
  unfold Port.writePrimary; split <;> rfl

theorem State.piaOk_writeByte {s : State} (h : s.piaOk) (a : Word) (v : Byte) :
    (s.writeByte a v).piaOk := by
  have hwrite : ∀ o, (s.pia.write o v).portA.latch = s.pia.portA.latch ∧
      (s.pia.write o v).portB.latch = s.pia.portB.latch := by
    intro o
    unfold Pia.write
    rcases piaSelect o with ⟨k, c⟩
    cases k <;> cases c <;> simp [Pia.setPort, Pia.port]
  simp only [State.piaOk, State.writeByte, State.piaAfterWrite]
  split
  next o _ => exact ⟨(hwrite o).1.trans h.1, (hwrite o).2.trans h.2⟩
  next => exact h

/-! ### The VIC -/

/-- The VIC's part of the invariant, by its fields. -/
structure Vic.Ok (c : Config) (p : Profile) (w : Vic) : Prop where
  aligned : w.h % 4 = 0
  h_lt : w.h < p.width
  v_lt : w.v < p.height
  depth : w.cellDepth < 16
  derived : w.derived = derive c w.reg
  mc : w.mc = multicolour w.derived w.cellColour
  frames : ∀ k, (w.frame k).ok p
  active : (w.frame w.active).ready = false

theorem State.vicOk_iff (s : State) : s.vicOk ↔ s.vic.Ok s.cfg s.profile := by
  constructor
  · rintro ⟨ha, hh, hv, hd, hder, hmc, h0, h1, hact⟩
    exact ⟨ha, hh, hv, hd, hder, hmc, fun k => by cases k; exacts [h0, h1], hact⟩
  · rintro ⟨ha, hh, hv, hd, hder, hmc, hfr, hact⟩
    exact ⟨ha, hh, hv, hd, hder, hmc, hfr .zero, hfr .one, hact⟩

/-- There are two frames. -/
theorem FrameId.eq_other {k j : FrameId} (h : k ≠ j) : k = j.other := by
  cases k <;> cases j <;> simp_all [FrameId.other]

/-- No derived field depends on what the raster mirror writes (R423). -/
theorem derive_mirror (c : Config) (w : Vic) (x : Nat) : derive c (w.mirror x).reg = derive c w.reg := by
  have hrows : ((w.mirror x).reg[3] >>> 1) &&& 0x3F#8 = (w.reg[3] >>> 1) &&& 0x3F#8 := by
    apply BitVec.eq_of_toNat_eq
    rw [toNat_rowsField, toNat_rowsField, Vic.toNat_mirror_reg_three]
    omega
  have htall : (w.mirror x).reg[3].getLsbD 0 = w.reg[3].getLsbD 0 := by
    rw [getLsbD_zero_eq_decide, getLsbD_zero_eq_decide, Vic.toNat_mirror_reg_three]
    congr 1
    apply propext
    omega
  have hreg : ∀ k (h : k < 16), k ≠ 3 → k ≠ 4 → (w.mirror x).reg[k] = w.reg[k] :=
    fun k => w.mirror_reg_of_ne x
  simp only [derive, hrows, htall, hreg 0 (by decide) (by decide) (by decide),
    hreg 1 (by decide) (by decide) (by decide), hreg 2 (by decide) (by decide) (by decide),
    hreg 5 (by decide) (by decide) (by decide), hreg 14 (by decide) (by decide) (by decide),
    hreg 15 (by decide) (by decide) (by decide)]

theorem charSize_derive_le (c : Config) (reg : Vector Byte 16) : (derive c reg).charSize ≤ 16 := by
  simp only [derive]
  split <;> decide

section
variable {c : Config} {p : Profile} {w : Vic} (hw : w.Ok c p)
include hw

theorem Vic.Ok.write (o : Nat) (v : Byte) : (w.write c o v).Ok c p := by
  unfold Vic.write
  split
  next => exact ⟨hw.aligned, hw.h_lt, hw.v_lt, hw.depth, rfl, rfl, fun k => by
      cases k; exacts [hw.frames .zero, hw.frames .one], by simpa [Vic.frame] using hw.active⟩
  next => exact hw

/-- What the state's other fields are does not matter. -/
theorem Vic.Ok.congr {u : Vic} (hh : u.h = w.h) (hv : u.v = w.v) (hdepth : u.cellDepth < 16)
    (hreg : derive c u.reg = derive c w.reg) (hderived : u.derived = w.derived)
    (hmc : u.mc = multicolour u.derived u.cellColour)
    (hframes : ∀ k, (u.frame k).ok p) (hactive : (u.frame u.active).ready = false) : u.Ok c p :=
  ⟨hh ▸ hw.aligned, hh ▸ hw.h_lt, hv ▸ hw.v_lt, hdepth, by rw [hderived, hreg, hw.derived], hmc, hframes,
    hactive⟩

theorem Vic.Ok.emit (colour : BitVec 4) : (w.emit (p.width * p.height) colour).Ok c p := by
  have hact := w.frame_emit_active (p.width * p.height) colour
  have hoth := w.frame_other_emit (p.width * p.height) colour
  refine hw.congr (by simp) (by simp) (by simpa using hw.depth) (by simp) (by simp)
    (by simpa using hw.mc) (fun k => ?_) (by rw [Vic.emit_active, hact]; exact hw.active)
  by_cases hk : k = w.active
  · subst hk
    refine ⟨Vic.wf_emit (hw.frames _).1 colour, fun q hq => ?_⟩
    rw [hact] at hq
    dsimp only at hq
    split at hq
    next hlt =>
      rcases Cells.mem_set hq with hq | rfl
      · exact (hw.frames _).2 q hq
      · exact hlt
    next => exact (hw.frames _).2 q hq
  · rw [FrameId.eq_other hk, hoth]
    exact hw.frames _

omit hw in
theorem Vic.Ok.emitAll (hw : w.Ok c p) (colours : List (BitVec 4)) :
    (w.emitAll (p.width * p.height) colours).Ok c p := by
  induction colours generalizing w with
  | nil => exact hw
  | cons b colours ih => exact ih (hw.emit b)

/-- Latches and counters of the render path that the invariant does not speak of. -/
theorem Vic.Ok.withFetch (b : Byte) (t : FetchToggle) :
    ({ w with lastFetch := b, fetchToggle := t } : Vic).Ok c p :=
  hw.congr rfl rfl hw.depth rfl rfl hw.mc (fun k => by cases k; exacts [hw.frames .zero, hw.frames .one])
    (by simpa [Vic.frame] using hw.active)

theorem Vic.Ok.takeCode (b b' : Byte) : (w.takeCode b b').Ok c p :=
  hw.congr rfl rfl hw.depth rfl rfl rfl (fun k => by cases k; exacts [hw.frames .zero, hw.frames .one])
    (by simpa [Vic.takeCode, Vic.frame] using hw.active)

theorem Vic.Ok.lineEnd (hp : p.valid = true) (render : Bool) : (w.lineEnd p render).Ok c p := by
  have hvalid := of_decide_eq_true hp
  refine ⟨rfl, ?_, ?_, hw.depth, ?_, hw.mc, fun k => ?_, ?_⟩
  · rw [Vic.lineEnd_h]; omega
  · rw [Vic.lineEnd_v]; split <;> omega
  · rw [Vic.lineEnd_derived, Vic.lineEnd_reg, derive_mirror, hw.derived]
  · rw [Vic.frame_lineEnd]; exact hw.frames k
  · rw [Vic.lineEnd_active, Vic.frame_lineEnd]; exact hw.active

theorem Vic.Ok.lineAdvance (policy : RowAdvance) (lineV : Nat) : (w.lineAdvance policy lineV).Ok c p := by
  refine hw.congr (by simp) (by simp) ?_ (by simp) (by simp) (by simpa using hw.mc)
    (fun k => by rw [Vic.frame_lineAdvance]; exact hw.frames k) (by simpa using hw.active)
  have hsize : w.derived.charSize ≤ 16 := hw.derived ▸ charSize_derive_le c w.reg
  by_cases hrow : policy = .everyLine ∨ (w.derived.screenTop ≤ lineV ∧ lineV < w.derived.screenBottom)
  · by_cases hd : w.derived.charSize ≤ w.cellDepth + 1
    · rw [Vic.lineAdvance_next_row hrow hd]; exact Nat.succ_pos _
    · rw [Vic.lineAdvance_same_row hrow hd]; show w.cellDepth + 1 < 16; omega
  · rw [Vic.lineAdvance_outside hrow]; exact hw.depth

theorem Vic.Ok.frameEnd : w.frameEnd.Ok c p := by
  have hact := Vic.frame_frameEnd_active (w := w) rfl
  have hoth := Vic.frame_frameEnd_other (w := w) rfl
  refine hw.congr (by simp) (by simp) (by simp) (by simp) (by simp) (by simpa using hw.mc) (fun k => ?_)
    (by rw [Vic.frameEnd_active, hoth])
  have hk := hw.frames k
  simp only [Frame.ok, Vic.frame_pixels_frameEnd] at hk ⊢
  exact hk

theorem Vic.Ok.advance (hp : p.valid = true) (render : Bool) : (w.advance c p render).Ok c p := by
  have hvalid := of_decide_eq_true hp
  rcases Nat.lt_or_ge (w.h + 4) p.width with hin | hend
  · rw [Vic.advance_inside_line hin]
    refine ⟨?_, hin, hw.v_lt, hw.depth, hw.derived, hw.mc, fun k => by
      cases k; exacts [hw.frames .zero, hw.frames .one], by simpa [Vic.frame] using hw.active⟩
    have := hw.aligned
    show (w.h + 4) % 4 = 0
    omega
  · cases render with
    | false => rw [Vic.advance_skip_line_end hend]; exact hw.lineEnd hp false
    | true =>
      rcases Nat.lt_or_ge (w.v + 1) p.height with hv | hv
      · rw [Vic.advance_render_line_end hend hv]; exact (hw.lineEnd hp true).lineAdvance _ _
      · rw [Vic.advance_render_frame_end hend hv]; exact (hw.lineEnd hp true).frameEnd

end

theorem State.vicOk_rendered {s : State} (h : s.vic.Ok s.cfg s.profile) :
    s.vicRendered.Ok s.cfg s.profile := by
  unfold State.vicRendered
  split
  · exact h
  · exact h.takeCode ..
  · exact (h.emitAll _).withFetch ..
  · exact (h.emitAll _).withFetch ..

theorem State.vicOk_vicStep {s : State} (hp : s.profile.valid = true) (h : s.vicOk) : s.vicStep.vicOk := by
  rw [State.vicOk_iff] at h ⊢
  rw [State.vicStep_cfg, State.vicStep_profile]
  cases hskip : s.skipRender with
  | true => rw [State.vicStep_of_skip hskip]; exact h.advance hp false
  | false => rw [State.vicStep_vic_of_render hskip]; exact (State.vicOk_rendered h).advance hp true

theorem State.vicOk_writeByte {s : State} (h : s.vicOk) (a : Word) (v : Byte) :
    (s.writeByte a v).vicOk := by
  rw [State.vicOk_iff] at h ⊢
  simp only [State.writeByte, State.vicAfterWrite]
  split
  · exact h.write ..
  · exact h

/-! ### A cycle -/

/-- The invariant outside the processor. -/
abbrev State.devicesOk (s : State) : Prop :=
  s.profile.valid = true ∧ s.memOk ∧ s.vicOk ∧ s.piaOk

theorem State.devicesOk_vicStep {s : State} (h : s.devicesOk) : s.vicStep.devicesOk := by
  obtain ⟨hp, hmem, hvic, hpia⟩ := h
  simp only [State.devicesOk, State.memOk, State.piaOk, State.vicStep_profile, State.vicStep_mem,
    State.vicStep_cfg, State.vicStep_pia]
  exact ⟨hp, hmem, State.vicOk_vicStep hp hvic, hpia⟩

theorem State.devicesOk_machineCycle {s : State} (h : s.devicesOk) : s.machineCycle.devicesOk := by
  have hstep := State.devicesOk_vicStep h
  rcases s.machineCycle_cases with ⟨c, e⟩ | ⟨c, a, e⟩ | ⟨c, a, v, e⟩ <;> rw [e]
  · exact hstep
  · exact hstep
  · obtain ⟨hp, hmem, hvic, hpia⟩ := hstep
    exact ⟨hp, State.memOk_writeByte hmem a v, State.vicOk_writeByte hvic a v,
      State.piaOk_writeByte hpia a v⟩

end Sys2Proof.Machine
end

section
/-! The processor's part of the invariant, the quiet interrupt lines (R603), and what steps and host
operations keep. -/

namespace Sys2Proof.Machine

/-! ### What a step and the host's stepping keep -/

/-- A property that a machine cycle keeps, a step keeps. -/
theorem step_keeps {P : State → Prop} (h : ∀ s, P s → P s.machineCycle) {s t : State} (hs : P s)
    (ht : step s = .next t) : P t := by
  cases hfault : s.cpu.fault with
  | none =>
    rw [step_eq_toBoundary hfault] at ht
    cases ht
    exact State.toBoundary_keeps h s hs
  | some f =>
    simp only [step, hfault, Option.isSome_some, if_true] at ht
    cases ht
    exact h s hs

/-- A property that the choice of path and a machine cycle keep, a run to the next frame keeps. -/
theorem State.stepUntilFrame_keeps {P : State → Prop} (hskip : ∀ s b, P s → P (s.setSkip b))
    (h : ∀ s, P s → P s.machineCycle) (skip : Bool) (n : Nat) {s : State} (hs : P s) :
    P (State.stepUntilFrame skip n s) := by
  induction n generalizing s with
  | zero => exact hs
  | succ n ih =>
    have hcycle : P (s.stepOneCycle skip).1 := h _ (hskip s skip hs)
    unfold State.stepUntilFrame
    split
    next t heq => rw [heq] at hcycle; exact hcycle
    next t heq => rw [heq] at hcycle; exact ih hcycle

/-- The operations of the host: the reset, a cycle or a frame on the chosen path, and the five that touch
neither the processor nor the memory. -/
theorem State.hostStep_keeps {P : State → Prop} (hskip : ∀ s b, P s → P (s.setSkip b))
    (h : ∀ s, P s → P s.machineCycle) (hreset : ∀ s, P s → P s.lifecycleReset)
    (hpause : ∀ s b, P s → P (s.setPaused b)) (hpress : ∀ s b, P s → P (s.signalPressed b))
    (hrelease : ∀ s b, P s → P (s.signalReleased b)) (htake : ∀ s, P s → P s.frameTaken)
    {s : State} (hs : P s) (op : HostOp) : P (s.hostStep op) := by
  cases op with
  | reset => exact hreset s hs
  | setPaused b => exact hpause s b hs
  | stepOneCycle skip => exact h _ (hskip s skip hs)
  | runUntilFrame skip => exact State.stepUntilFrame_keeps hskip h skip _ hs
  | signalPressed b => exact hpress s b hs
  | signalReleased b => exact hrelease s b hs
  | getReadyFrame =>
    simp only [State.hostStep]
    cases hready : (s.vic.frame s.vic.active.other).ready with
    | true => rw [State.getReadyFrame_of_ready hready]; exact htake s hs
    | false => rw [State.getReadyFrame_of_not_ready hready]; exact hs
  | geometry => exact hs

/-! ### Quiet interrupt lines (R603) -/

/-- Both lines inactive and no NMI pending. -/
def Cpu.Quiet (c : Cpu) : Prop := c.nmiLine = false ∧ c.irqLine = false ∧ c.nmiPending = false

theorem Cpu.nextSeq_of_quiet {c : Cpu} (h : c.Quiet) :
    c.nextSeq = if c.micro.seq = .reset then .reset else .instr := by
  obtain ⟨-, hirq, hnmi⟩ := h
  simp [Cpu.nextSeq, hirq, hnmi]

theorem Cpu.nextSeq_ne_interrupt {c : Cpu} (h : c.Quiet) (k : IntKind) : c.nextSeq ≠ .interrupt k := by
  rw [Cpu.nextSeq_of_quiet h]
  split <;> simp

theorem Cpu.beginSeq_of_quiet {c : Cpu} (h : c.Quiet) : c.beginSeq = c.startSeq c.nextSeq := by
  unfold Cpu.beginSeq
  split
  next k hk => exact absurd hk (Cpu.nextSeq_ne_interrupt h k)
  next => rfl

theorem State.nmiPending_beginIfBoundary {s : State} (h : s.cpu.Quiet) :
    s.beginIfBoundary.cpu.nmiPending = s.cpu.nmiPending := by
  unfold State.beginIfBoundary
  rw [Cpu.beginSeq_of_quiet h]
  split <;> simp

theorem State.quiet_machineCycle {s : State} (h : s.cpu.Quiet) : s.machineCycle.cpu.Quiet := by
  cases hfault : s.cpu.fault with
  | some f => simpa [State.machineCycle_of_fault, hfault] using h
  | none =>
    have hline := s.beginIfBoundary_nmiLine
    have hirqLine := s.beginIfBoundary_irqLine
    have hkept := State.nmiPending_beginIfBoundary h
    obtain ⟨hnmi, hirq, hpending⟩ := h
    obtain ⟨ir, ⟨f, hend⟩ | ⟨hgo, -⟩⟩ := State.control_machineCycle hfault
    · exact ⟨(congrArg Control.nmiLine hend).trans (hline.trans hnmi),
        (congrArg Control.irqLine hend).trans (hirqLine.trans hirq),
        (congrArg Control.nmiPending hend).trans (hkept.trans hpending)⟩
    · exact ⟨(congrArg Control.nmiLine hgo).trans (hline.trans hnmi),
        (congrArg Control.irqLine hgo).trans (hirqLine.trans hirq),
        (congrArg Control.nmiPending hgo).trans (hkept.trans hpending)⟩

/-- The reset leaves the interrupt lines, clears the fault and puts the processor at a boundary (R701). -/
theorem State.cpuReset_control (s : State) :
    s.cpuReset.cpu.control =
      { s.cpu.control with
        cyc := 0
        seq := if s.cfg.resetCycles = .none then .instr else .reset
        fault := none } := by
  unfold State.cpuReset
  cases s.cfg.resetCycles <;> rfl

theorem State.quiet_lifecycleReset {s : State} (h : s.cpu.Quiet) : s.lifecycleReset.cpu.Quiet := by
  have hreset := s.cpuReset_control
  obtain ⟨hnmi, hirq, hpending⟩ := h
  exact ⟨(congrArg Control.nmiLine hreset).trans hnmi, (congrArg Control.irqLine hreset).trans hirq,
    (congrArg Control.nmiPending hreset).trans hpending⟩

/-- Settles O40: no cycle drives a line, and a pending NMI arises from an edge only. -/
theorem noInterruptOccursInThisMachine : Obligations.NoInterruptOccursInThisMachine := by
  intro s quiet h
  refine ⟨Cpu.nextSeq_ne_interrupt h, State.quiet_machineCycle h, fun t ht => ?_, fun op => ?_⟩
  · exact step_keeps (P := (·.cpu.Quiet)) (fun _ => State.quiet_machineCycle) h ht
  · exact State.hostStep_keeps (P := (·.cpu.Quiet)) (fun _ _ h => h) (fun _ => State.quiet_machineCycle)
      (fun _ => State.quiet_lifecycleReset) (fun _ _ h => h) (fun _ _ h => h) (fun _ _ h => h)
      (fun _ h => h) h op

/-! ### The invariant -/

theorem State.cpuOk_machineCycle {s : State} (h : s.cpuOk) : s.machineCycle.cpuOk := by
  obtain ⟨hcyc, hnmiSeq, hirqSeq, hquiet⟩ := h
  have hquiet' := State.quiet_machineCycle (s := s) hquiet
  suffices hseq : (s.machineCycle.cpu.micro.cyc = 0 ∨
      s.machineCycle.cpu.micro.cyc < s.machineCycle.seqRows.length) ∧
      ∀ k, s.machineCycle.cpu.micro.seq ≠ .interrupt k from
    ⟨hseq.1, hseq.2 .nmi, hseq.2 .irq, hquiet'⟩
  cases hfault : s.cpu.fault with
  | some f =>
    rw [State.machineCycle_of_fault (by simp [hfault])]
    simp only [State.seqRows, State.vicStep_cpu, State.vicStep_cfg]
    exact ⟨hcyc, fun k => by cases k; exacts [hnmiSeq, hirqSeq]⟩
  | none =>
    obtain ⟨ir, ⟨f, hend⟩ | ⟨hgo, hin⟩⟩ := State.control_machineCycle hfault
    · refine ⟨.inl (congrArg Control.cyc hend), fun k => ?_⟩
      have hi : s.machineCycle.cpu.micro.seq = .instr := congrArg Control.seq hend
      simp [hi]
    · have hc : s.machineCycle.cpu.micro.cyc = _ := congrArg Control.cyc hgo
      have hs : s.machineCycle.cpu.micro.seq = s.beginIfBoundary.cpu.micro.seq :=
        congrArg Control.seq hgo
      refine ⟨.inr (by rw [hc]; exact hin), fun k => ?_⟩
      rw [hs]
      by_cases hz : s.cpu.micro.cyc = 0
      · rw [State.beginIfBoundary_of_cyc_eq_zero hz]
        simpa using Cpu.nextSeq_ne_interrupt hquiet k
      · rw [State.beginIfBoundary_of_cyc_ne_zero hz]
        cases k; exacts [hnmiSeq, hirqSeq]

theorem State.inv_machineCycle {s : State} (h : s.Inv) : s.machineCycle.Inv := by
  obtain ⟨hp, hmem, hcpu, hvic, hpia⟩ := h
  obtain ⟨hp', hmem', hvic', hpia'⟩ := State.devicesOk_machineCycle ⟨hp, hmem, hvic, hpia⟩
  exact ⟨hp', hmem', State.cpuOk_machineCycle hcpu, hvic', hpia'⟩

/-- Settles O32: a cycle keeps each part of the invariant, and a step is cycles. -/
theorem everyStepKeepsTheInvariant : Obligations.EveryStepKeepsTheInvariant :=
  fun _ _ => step_keeps (P := fun u => u.Inv) fun _ => State.inv_machineCycle

/-! ### The host's operations on the invariant -/

theorem State.cpuOk_lifecycleReset {s : State} (h : s.cpuOk) : s.lifecycleReset.cpuOk := by
  have hreset := s.cpuReset_control
  have hquiet := State.quiet_lifecycleReset (s := s) h.2.2.2
  have hseq : ∀ k, s.lifecycleReset.cpu.micro.seq ≠ .interrupt k := by
    intro k
    have hs : s.lifecycleReset.cpu.micro.seq = _ := congrArg Control.seq hreset
    rw [hs]
    dsimp only
    split <;> simp
  exact ⟨.inl (congrArg Control.cyc hreset), hseq .nmi, hseq .irq, hquiet⟩

theorem State.inv_lifecycleReset {s : State} (h : s.Inv) : s.lifecycleReset.Inv := by
  obtain ⟨hp, hmem, hcpu, hvic, -⟩ := h
  have hcfg : s.lifecycleReset.cfg = s.cfg := s.cpuReset_cfg
  have hmem' : s.lifecycleReset.mem = s.mem := s.cpuReset_mem
  have hvic' : s.lifecycleReset.vic = s.vic := by simp [State.lifecycleReset]
  have hprof : s.lifecycleReset.profile = s.profile := by simp [State.lifecycleReset]
  refine ⟨hprof ▸ hp, ?_, State.cpuOk_lifecycleReset hcpu, ?_, rfl, rfl⟩
  · simpa only [State.memOk, hcfg, hmem'] using hmem
  · simpa only [State.vicOk, hcfg, hvic', hprof] using hvic

/-- Taking the ready frame leaves the pixels and the frame being written (R511). -/
theorem State.inv_frameTaken {s : State} (h : s.Inv) : s.frameTaken.Inv := by
  obtain ⟨hp, hmem, hcpu, hvic, hpia⟩ := h
  refine ⟨hp, hmem, hcpu, ?_, hpia⟩
  rw [State.vicOk_iff] at hvic ⊢
  refine hvic.congr (s.vic.setFrame_h ..) (s.vic.setFrame_v ..) ?_ (by simp [State.frameTaken])
    (s.vic.setFrame_derived ..) (by simpa [State.frameTaken] using hvic.mc) (fun k => ?_) ?_
  · simpa [State.frameTaken] using hvic.depth
  · by_cases hk : k = s.vic.active
    · subst hk
      rw [State.frame_active_frameTaken]
      exact hvic.frames _
    · rw [FrameId.eq_other hk, State.frame_other_frameTaken]
      exact hvic.frames _
  · rw [State.frameTaken_vic_active, State.frame_active_frameTaken]
    exact hvic.active

/-- Settles O33: the reset, a cycle and taking a frame keep the invariant, the other operations touch
nothing it speaks of. -/
theorem everyHostOperationKeepsTheInvariant : Obligations.EveryHostOperationKeepsTheInvariant := by
  intro s op hs
  refine State.hostStep_keeps (P := fun t => t.Inv ∧ sameConfig s t) (fun _ _ h => h) (fun t h => ?_)
    (fun t h => ?_) (fun _ _ h => h) (fun _ _ h => h) (fun _ _ h => h) (fun t h => ?_)
    ⟨hs, rfl, rfl⟩ op
  · exact ⟨State.inv_machineCycle h.1, t.machineCycle_cfg.trans h.2.1, t.machineCycle_profile.trans h.2.2⟩
  · exact ⟨State.inv_lifecycleReset h.1, t.cpuReset_cfg.trans h.2.1, t.cpuReset_profile.trans h.2.2⟩
  · exact ⟨State.inv_frameTaken h.1, h.2⟩

end Sys2Proof.Machine
end

section
/-! Frames: the raster position counts the cycles (R420, R421, R503), and a stopped processor (R502). -/

namespace Sys2Proof.Machine

/-! ### The raster over machine cycles -/

theorem Vic.write_h (c : Config) (w : Vic) (o : Nat) (b : Byte) : (w.write c o b).h = w.h := by
  unfold Vic.write; split <;> rfl

theorem Vic.write_v (c : Config) (w : Vic) (o : Nat) (b : Byte) : (w.write c o b).v = w.v := by
  unfold Vic.write; split <;> rfl

theorem Vic.write_active (c : Config) (w : Vic) (o : Nat) (b : Byte) :
    (w.write c o b).active = w.active := by
  unfold Vic.write; split <;> rfl

theorem Vic.frame_write (c : Config) (w : Vic) (o : Nat) (b : Byte) (k : FrameId) :
    (w.write c o b).frame k = w.frame k := by
  unfold Vic.write; split <;> cases k <;> rfl

/-- What a VIC write leaves, the processor's part of a cycle leaves. -/
theorem State.machineCycle_vic {α : Type} (f : Vic → α)
    (h : ∀ c w o b, f (Vic.write c w o b) = f w) (s : State) : f s.machineCycle.vic = f s.vicStep.vic := by
  rcases s.machineCycle_cases with ⟨c, e⟩ | ⟨c, a, e⟩ | ⟨c, a, b, e⟩ <;> rw [e]
  · rfl
  · rfl
  · simp only [State.withCpu_vic, State.writeCycle, State.writeByte, State.piaStep_eq, State.vicAfterWrite]
    split
    · exact h ..
    · rfl

/-- The counters are those of a state of the profile, inside their ranges (R43). -/
structure State.RasterIn (p : Profile) (s : State) : Prop where
  profile : s.profile = p
  aligned : s.vic.h % 4 = 0
  h_lt : s.vic.h < p.width
  v_lt : s.vic.v < p.height

/-- The number of cycles of the frame that lie behind. -/
def State.rasterPos (s : State) : Nat := s.vic.v * (s.profile.width / 4) + s.vic.h / 4

/-- A place in a grid of rows of `q` is its last exactly if it ends the last row. -/
theorem last_place_iff {q height v k : Nat} (hk : k < q) (hv : v < height) :
    v * q + k + 1 = q * height ↔ q ≤ k + 1 ∧ height ≤ v + 1 := by
  obtain ⟨d, rfl⟩ := Nat.exists_eq_add_of_lt hv
  rcases Nat.eq_zero_or_pos d with rfl | hd
  · rw [Nat.mul_comm v q, show q * (v + 0 + 1) = q * v + q by ring]
    omega
  · have hmore : q * (v + d + 1) = v * q + q * d + q := by ring
    have := Nat.le_mul_of_pos_right q hd
    rw [hmore]
    omega

/-- A place in the grid is not past its end. -/
theorem place_lt {q height v k : Nat} (hk : k < q) (hv : v < height) : v * q + k < q * height := by
  obtain ⟨d, rfl⟩ := Nat.exists_eq_add_of_lt hv
  have hmore : q * (v + d + 1) = v * q + q * d + q := by ring
  omega

section
variable {p : Profile} {s : State} (hp : p.valid = true) (h : s.RasterIn p)
include hp h

/-- The width and the horizontal counter are whole numbers of cycles. -/
theorem State.RasterIn.exists_cycles :
    ∃ q k, p.width = 4 * q ∧ s.vic.h = 4 * k ∧ k < q ∧ s.rasterPos = s.vic.v * q + k := by
  obtain ⟨hw, -⟩ := of_decide_eq_true hp
  obtain ⟨hprof, ha, hlt, -⟩ := h
  refine ⟨p.width / 4, s.vic.h / 4, by omega, by omega, by omega, ?_⟩
  rw [State.rasterPos, hprof]

theorem State.RasterIn.rasterPos_lt : s.rasterPos < cyclesPerFrame p := by
  obtain ⟨q, k, hw, -, hk, hpos⟩ := h.exists_cycles hp
  rw [hpos, cyclesPerFrame, hw, Nat.mul_div_cancel_left q (by decide)]
  exact place_lt hk h.v_lt

/-- The last cycle of a frame completes it (R420, R422). -/
theorem State.RasterIn.completesFrame_eq :
    s.completesFrame = decide (s.rasterPos + 1 = cyclesPerFrame p) := by
  obtain ⟨q, k, hw, hh, hk, hpos⟩ := h.exists_cycles hp
  rw [State.completesFrame_eq, h.profile, hpos, cyclesPerFrame, hw, Nat.mul_div_cancel_left q (by decide),
    hh]
  congr 1
  rw [last_place_iff hk h.v_lt]
  apply propext
  omega

/-- Every other cycle moves the raster one cycle on, the last one back to the start (R421). -/
theorem State.RasterIn.machineCycle :
    s.machineCycle.RasterIn p ∧
      s.machineCycle.rasterPos = if s.completesFrame then 0 else s.rasterPos + 1 := by
  obtain ⟨q, k, hw, hh, hk, hpos⟩ := h.exists_cycles hp
  obtain ⟨hprof, -, hlt, hv⟩ := h
  have hcycleH := State.machineCycle_vic Vic.h Vic.write_h s
  have hcycleV := State.machineCycle_vic Vic.v Vic.write_v s
  have hq : p.width / 4 = q := by omega
  have hprof' : s.machineCycle.profile = p := s.machineCycle_profile.trans hprof
  have hnew : s.machineCycle.rasterPos = s.machineCycle.vic.v * q + s.machineCycle.vic.h / 4 := by
    rw [State.rasterPos, hprof', hq]
  rw [State.completesFrame_eq, hprof, hpos, hnew]
  rcases Nat.lt_or_ge (s.vic.h + 4) p.width with hin | hend
  · obtain ⟨hh', hv', -, -⟩ := State.vicStep_counters_inside_line (hprof ▸ hin)
    rw [hh'] at hcycleH
    rw [hv'] at hcycleV
    refine ⟨⟨hprof', by omega, by omega, by omega⟩, ?_⟩
    rw [hcycleH, hcycleV, decide_eq_false (by omega), hh]
    simp only [Bool.false_eq_true, if_false]
    omega
  · obtain ⟨hh', hv', -, -⟩ := State.vicStep_counters_line_end (hprof ▸ hend)
    rw [hh'] at hcycleH
    rw [hv', hprof] at hcycleV
    rcases Nat.lt_or_ge (s.vic.v + 1) p.height with hmore | hwrap
    · rw [if_neg (Nat.not_le.2 hmore)] at hcycleV
      refine ⟨⟨hprof', by omega, by omega, by omega⟩, ?_⟩
      rw [hcycleH, hcycleV, decide_eq_false (by omega)]
      have hline : (s.vic.v + 1) * q = s.vic.v * q + q := by ring
      simp only [Bool.false_eq_true, if_false, hline]
      omega
    · rw [if_pos hwrap] at hcycleV
      refine ⟨⟨hprof', by omega, by omega, by omega⟩, ?_⟩
      rw [hcycleH, hcycleV, decide_eq_true ⟨hend, hwrap⟩]
      simp

/-- Within a frame the position counts the cycles. -/
theorem State.RasterIn.cycles {n : Nat} (hn : s.rasterPos + n < cyclesPerFrame p) :
    (State.cycles n s).RasterIn p ∧ (State.cycles n s).rasterPos = s.rasterPos + n := by
  induction n generalizing s with
  | zero => exact ⟨h, rfl⟩
  | succ n ih =>
    obtain ⟨hnext, hpos⟩ := h.machineCycle hp
    rw [h.completesFrame_eq hp, decide_eq_false (by omega)] at hpos
    obtain ⟨hin, hcount⟩ := ih hnext (by simp only [hpos, Bool.false_eq_true, if_false]; omega)
    refine ⟨hin, hcount.trans ?_⟩
    simp only [hpos, Bool.false_eq_true, if_false]
    omega

theorem State.RasterIn.completesFrame_cycles {n : Nat} (hn : s.rasterPos + n < cyclesPerFrame p) :
    (State.cycles n s).completesFrame = decide (s.rasterPos + n + 1 = cyclesPerFrame p) := by
  obtain ⟨hin, hpos⟩ := h.cycles hp hn
  rw [hin.completesFrame_eq hp, hpos]

/-- At position 0 both counters are 0. -/
theorem State.RasterIn.counters_of_rasterPos_eq_zero (h0 : s.rasterPos = 0) :
    s.vic.h = 0 ∧ s.vic.v = 0 := by
  obtain ⟨q, k, -, hh, hk, hpos⟩ := h.exists_cycles hp
  rw [hpos] at h0
  obtain ⟨hv, hk0⟩ := Nat.add_eq_zero_iff.1 h0
  refine ⟨by omega, ?_⟩
  rcases Nat.mul_eq_zero.1 hv with hv | hq
  · exact hv
  · omega

end

theorem State.cycles_succ (n : Nat) (s : State) :
    State.cycles (n + 1) s = (State.cycles n s).machineCycle := by
  induction n generalizing s with
  | zero => rfl
  | succ n ih => exact ih s.machineCycle

/-! ### The skip path -/

/-- The skip path leaves both frames and which is being written (R433). -/
theorem State.frames_machineCycle_of_skip {s : State} (h : s.skipRender = true) :
    (∀ k, s.machineCycle.vic.frame k = s.vic.frame k) ∧ s.machineCycle.vic.active = s.vic.active := by
  have hstep : (∀ k, s.vicStep.vic.frame k = s.vic.frame k) ∧ s.vicStep.vic.active = s.vic.active := by
    rw [State.vicStep_of_skip h]
    rcases Nat.lt_or_ge (s.vic.h + 4) s.profile.width with hin | hend
    · dsimp only
      rw [Vic.advance_inside_line hin]
      exact ⟨fun k => by cases k <;> rfl, rfl⟩
    · dsimp only
      rw [Vic.advance_skip_line_end hend]
      exact ⟨Vic.frame_lineEnd _ _ _, rfl⟩
  refine ⟨fun k => (State.machineCycle_vic (Vic.frame · k) (fun c w o b => w.frame_write c o b k) s).trans
    (hstep.1 k), (State.machineCycle_vic Vic.active Vic.write_active s).trans hstep.2⟩

theorem State.frames_cycles_of_skip {s : State} (h : s.skipRender = true) (n : Nat) :
    (∀ k, (State.cycles n s).vic.frame k = s.vic.frame k) ∧
      (State.cycles n s).vic.active = s.vic.active := by
  have hall := State.cycles_keeps
    (P := fun t => t.skipRender = true ∧ (∀ k, t.vic.frame k = s.vic.frame k) ∧
      t.vic.active = s.vic.active)
    (fun t ⟨hskip, hframes, hactive⟩ => by
      obtain ⟨hf, ha⟩ := State.frames_machineCycle_of_skip hskip
      exact ⟨t.machineCycle_skipRender.trans hskip, fun k => (hf k).trans (hframes k), ha.trans hactive⟩)
    n s ⟨h, fun _ => rfl, rfl⟩
  exact hall.2

/-- Settles O51: the raster position counts the cycles from 0 to the last, which completes the frame. -/
theorem frameTakesItsCyclesOnBothPaths : Obligations.FrameTakesItsCyclesOnBothPaths := by
  intro s hp hh hv
  obtain ⟨-, hwidth, hheight, -⟩ := of_decide_eq_true hp
  have h : s.RasterIn s.profile := ⟨rfl, by omega, by omega, by omega⟩
  have hpos : s.rasterPos = 0 := by simp [State.rasterPos, hh, hv]
  refine ⟨fun n hn => ?_, ?_, fun hskip n => ?_⟩
  · rw [h.completesFrame_cycles hp (by omega), hpos, Nat.zero_add]
  · obtain ⟨n, hn⟩ := Nat.exists_eq_add_of_lt (hpos ▸ h.rasterPos_lt hp)
    obtain ⟨hin, hcount⟩ := h.cycles hp (n := n) (by omega)
    obtain ⟨hin', hpos'⟩ := hin.machineCycle hp
    rw [hin.completesFrame_eq hp, decide_eq_true (by omega)] at hpos'
    have hlast : State.cycles (cyclesPerFrame s.profile) s = (State.cycles n s).machineCycle := by
      rw [← State.cycles_succ]; congr 1; omega
    rw [hlast]
    exact hin'.counters_of_rasterPos_eq_zero hp hpos'
  · obtain ⟨hframes, -⟩ := State.frames_cycles_of_skip hskip n
    exact ⟨congrArg Frame.pixels (hframes .zero), congrArg Frame.pixels (hframes .one)⟩

/-! ### The run to the next frame (R503) -/

theorem State.setSkip_of_skipRender {s : State} {skip : Bool} (h : s.skipRender = skip) :
    s.setSkip skip = s := by subst h; rfl

/-- The run stops with the first cycle that completes a frame. -/
theorem State.stepUntilFrame_eq_cycles {skip : Bool} {n limit : Nat} {s : State} (hn : n < limit)
    (hlast : (State.cycles n (s.setSkip skip)).completesFrame = true)
    (hbefore : ∀ m, m < n → (State.cycles m (s.setSkip skip)).completesFrame = false) :
    State.stepUntilFrame skip limit s = State.cycles (n + 1) (s.setSkip skip) := by
  induction n generalizing s limit with
  | zero =>
    obtain ⟨limit, rfl⟩ := Nat.exists_eq_succ_of_ne_zero (Nat.ne_of_gt hn)
    have hnow : s.completesFrame = true := hlast
    simp only [State.stepUntilFrame, State.stepOneCycle, hnow]
    rfl
  | succ n ih =>
    obtain ⟨limit, rfl⟩ := Nat.exists_eq_succ_of_ne_zero (Nat.ne_of_gt (Nat.zero_lt_of_lt hn))
    have hnow : s.completesFrame = false := hbefore 0 (Nat.succ_pos _)
    have hsame : (s.setSkip skip).machineCycle.setSkip skip = (s.setSkip skip).machineCycle :=
      State.setSkip_of_skipRender (State.machineCycle_skipRender _)
    simp only [State.stepUntilFrame, State.stepOneCycle, hnow]
    rw [ih (Nat.lt_of_succ_lt_succ hn) (by rw [hsame]; exact hlast)
      fun m hm => by rw [hsame]; exact hbefore (m + 1) (Nat.succ_lt_succ hm), hsame]
    rfl

/-- Settles O52: the first frame end lies as many cycles ahead as the raster position leaves. -/
theorem runUntilFrameStopsAtTheFirstFrame : Obligations.RunUntilFrameStopsAtTheFirstFrame := by
  intro s skip hp ha hh hv
  have h : (s.setSkip skip).RasterIn s.profile := ⟨rfl, ha, hh, hv⟩
  obtain ⟨n, hn⟩ := Nat.exists_eq_add_of_lt (h.rasterPos_lt hp)
  have hlast : (State.cycles n (s.setSkip skip)).completesFrame = true := by
    rw [h.completesFrame_cycles hp (by omega)]; exact decide_eq_true hn.symm
  have hbefore : ∀ m, m < n → (State.cycles m (s.setSkip skip)).completesFrame = false := by
    intro m hm
    rw [h.completesFrame_cycles hp (by omega)]; exact decide_eq_false (by omega)
  have hrun : s.runUntilFrame skip = State.cycles (n + 1) (s.setSkip skip) :=
    State.stepUntilFrame_eq_cycles (by omega) hlast hbefore
  refine ⟨n, by omega, hrun, hlast, hbefore, fun hh0 hv0 => ?_, fun hskip => ?_⟩
  · have hpos : (s.setSkip skip).rasterPos = 0 := by simp [State.rasterPos, hh0, hv0]
    omega
  · obtain ⟨hframes, hactive⟩ := State.frames_cycles_of_skip (s := s.setSkip skip) hskip (n + 1)
    rw [hrun]
    exact ⟨congrArg Frame.ready (hframes .zero), congrArg Frame.ready (hframes .one), hactive⟩

/-! ### A stopped processor (R502) -/

/-- Settles O43: every cycle of a stopped processor is a VIC step, which leaves the rest alone. -/
theorem stoppedCpuStaysWhileTheVicGoesOn : Obligations.StoppedCpuStaysWhileTheVicGoesOn := by
  intro s hfault
  refine ⟨by simp [step, hfault], State.machineCycle_of_fault hfault, ?_, fun n => ?_,
    fun hp ha hh hv => ?_⟩
  · simp [State.cpuAccess, hfault, State.beginIfBoundary_vicStep]
  · refine State.cycles_keeps (P := fun t => t.cpu = s.cpu ∧ t.mem = s.mem ∧ t.pia = s.pia) ?_ n s
      ⟨rfl, rfl, rfl⟩
    rintro t ⟨hcpu, hmem, hpia⟩
    rw [State.machineCycle_of_fault (by rw [hcpu]; exact hfault)]
    exact ⟨t.vicStep_cpu.trans hcpu, t.vicStep_mem.trans hmem, t.vicStep_pia.trans hpia⟩
  · have h : s.RasterIn s.profile := ⟨rfl, ha, hh, hv⟩
    obtain ⟨n, hn⟩ := Nat.exists_eq_add_of_lt (h.rasterPos_lt hp)
    refine ⟨n, by omega, ?_⟩
    rw [h.completesFrame_cycles hp (by omega)]
    exact decide_eq_true hn.symm

end Sys2Proof.Machine
end

section
/-! Resets, interrupts and the return from an event (R603 to R609, R701 to R703). -/

namespace Sys2Proof.Machine

/-! ### The reset -/

/-- Settles O37: both cases of `RESET_CYCLES` from the definition of the reset. -/
theorem lifecycleResetRestartsCpuAndPia : Obligations.LifecycleResetRestartsCpuAndPia := by
  intro s
  simp only [State.lifecycleReset, State.cpuReset]
  cases s.cfg.resetCycles <;> simp [Pia.reset, Port.reset, State.resetVector]

/-- Settles O38: the reset sequence is due, so the step is its seven cycles. -/
theorem resetSequenceTakesSevenCycles : Obligations.ResetSequenceTakesSevenCycles := by
  intro s hfault hcyc hseq
  have hdue : s.cpu.nextSeq = .reset := by simp [Cpu.nextSeq, hseq]
  have hstep : step s = .next s.runReset := by simp [step, hfault, hcyc, hdue]
  obtain ⟨houtside, hregs, hcyc', hseq', hfault', -⟩ := (s.startSeq .reset).runRows_reset s.cfg.resetSp
  simp only [State.startSeq, State.reads_withCpu, State.readCycle_withCpu, State.readAt_withCpu,
    State.withCpu_withCpu, State.withCpu_cpu, Cpu.startSeq_regs, Cpu.startSeq_fault]
    at houtside hregs hfault'
  exact ⟨_, hstep, houtside, hregs, hcyc', hseq', hfault'.trans hfault⟩

/-! ### Taking an interrupt -/

@[simp] theorem Cpu.acceptInterrupt_nmiPending (c : Cpu) (k : IntKind) :
    (c.acceptInterrupt k).nmiPending = (match k with | .nmi => false | .irq => c.nmiPending) := by
  cases k <;> rfl

/-- What an interrupt does: the seven cycles of R606 from the state, with the NMI no longer pending. -/
theorem State.takeInterrupt_ends (s : State) (k : IntKind) :
    let q := s.cpu.regs
    let v := s.reads [q.pc, q.pc]
    let t := s.takeInterrupt k
    t = (v.entered q.s q.pc (q.p.pack false) (vectorOf k)).withCpu t.cpu ∧
      t.cpu.regs = { q with
        pc := v.handler q.s q.pc (q.p.pack false) (vectorOf k)
        s := q.s - 3
        p := { q.p with i := true } } ∧
      t.cpu.micro.cyc = 0 ∧ t.cpu.micro.seq = .instr ∧ t.cpu.fault = s.cpu.fault ∧
      t.cpu.nmiPending = (match k with | .nmi => false | .irq => s.cpu.nmiPending) ∧
      t.cpu.irqLine = s.cpu.irqLine := by
  obtain ⟨houtside, hregs, hcyc, hseq, hfault, -, hirq, hnmi⟩ :=
    (s.withCpu (s.cpu.acceptInterrupt k)).runRows_interrupt k
  simp only [State.entered, State.handler, State.reads_withCpu, State.readCycle_withCpu,
    State.writeCycle_withCpu, State.readAt_withCpu, State.withCpu_withCpu, State.withCpu_cpu,
    Cpu.acceptInterrupt_regs, Cpu.acceptInterrupt_fault, Cpu.acceptInterrupt_irqLine,
    Cpu.acceptInterrupt_nmiPending] at houtside hregs hfault hirq hnmi
  exact ⟨houtside, hregs, hcyc, hseq, hfault, hnmi, hirq⟩

theorem step_of_interrupt {s : State} {k : IntKind} (hfault : s.cpu.fault = none)
    (hcyc : s.cpu.micro.cyc = 0) (hseq : s.cpu.nextSeq = .interrupt k) :
    step s = .next (s.takeInterrupt k) := by
  simp [step, hfault, hcyc, hseq]

/-- Settles O39: the order in which a boundary looks for its next sequence, and the interrupt sequence
for both vectors. -/
theorem interruptsAreTakenAtBoundaries : Obligations.InterruptsAreTakenAtBoundaries := by
  intro s hfault hcyc hreset q taken
  refine ⟨fun hnmi => ?_, fun hnmi hirq hi => ?_, fun hnmi hirq => ⟨hfault, hcyc, ?_⟩⟩
  · have hseq : s.cpu.nextSeq = .interrupt .nmi := by simp [Cpu.nextSeq, hreset, hnmi]
    obtain ⟨houtside, hregs, hcyc', hseq', hfault', hnmi', hirq'⟩ := s.takeInterrupt_ends .nmi
    exact ⟨_, step_of_interrupt hfault hcyc hseq, houtside, hregs, hcyc', hseq', hfault'.trans hfault,
      hnmi', hirq'⟩
  · have hseq : s.cpu.nextSeq = .interrupt .irq := by
      have hmask : s.cpu.regs.p.i = false := hi
      simp [Cpu.nextSeq, hreset, hnmi, hirq, hmask]
    obtain ⟨houtside, hregs, hcyc', hseq', hfault', hnmi', hirq'⟩ := s.takeInterrupt_ends .irq
    exact ⟨_, step_of_interrupt hfault hcyc hseq, houtside, hregs, hcyc', hseq', hfault'.trans hfault,
      hnmi'.trans hnmi, hirq'⟩
  · rcases hirq with hirq | hi
    · simp [Cpu.nextSeq, hreset, hnmi, hirq]
    · have hmask : s.cpu.regs.p.i = true := hi
      simp [Cpu.nextSeq, hreset, hnmi, hmask]

/-! ### The stack bytes of an event -/

@[simp] theorem State.reads_cfg (s : State) (l : List Word) : (s.reads l).cfg = s.cfg := by
  induction l generalizing s with
  | nil => rfl
  | cons a l ih => simp [ih]

@[simp] theorem State.reads_mem (s : State) (l : List Word) : (s.reads l).mem = s.mem := by
  induction l generalizing s with
  | nil => rfl
  | cons a l ih => simp [ih]

theorem State.chipAt_congr {s t : State} (h : t.cfg = s.cfg) (a : Word) : t.chipAt a = s.chipAt a := by
  rw [State.chipAt, State.chipAt, h]

theorem State.cell_congr {s t : State} (h : t.mem = s.mem) (a : Word) : t.cell a = s.cell a := by
  rw [State.cell, State.cell, h]

/-- A cycle's read of RAM returns its cell. -/
theorem State.readAt_of_ram {s : State} {a : Word} (h : (s.chipAt a).1 = .ram) : s.readAt a = s.cell a := by
  have hchip : (s.vicStep.chipAt a).1 = .ram := by rw [State.chipAt_congr s.vicStep_cfg]; exact h
  rw [State.readAt, State.readByte_of_ram hchip, State.cell_congr s.vicStep_mem]

/-- The cell under an address after a write cycle to RAM. -/
theorem State.cell_writeCycle_ram {s : State} (hwf : Memory.wf s.mem = true) {a : Word}
    (h : (s.chipAt a).1 = .ram) (v : Byte) (b : Word) :
    (s.writeCycle a v).cell b = if busAddr b = busAddr a then v else s.cell b := by
  have hchip : (s.vicStep.chipAt a).1 = .ram := by rw [State.chipAt_congr s.vicStep_cfg]; exact h
  have hwf' : Memory.wf s.vicStep.mem = true := by simpa using hwf
  rw [← State.cell_congr s.vicStep_mem b]
  exact State.cell_writeByte_ram hwf' hchip v b

theorem busAddr_stackAddr (x : Byte) : busAddr (stackAddr x) = 0x100 + x.toNat := by
  rw [busAddr_eq_mod, toNat_stackAddr]
  omega

theorem busAddr_stackAddr_inj {x y : Byte} : busAddr (stackAddr x) = busAddr (stackAddr y) ↔ x = y := by
  rw [busAddr_stackAddr, busAddr_stackAddr, Nat.add_left_cancel_iff, BitVec.toNat_inj]

/-- With RAM under the three stack bytes of an event they hold PC and the status pushed (R303, R606). -/
theorem State.cell_entered {v : State} {sp : Byte} (hwf : Memory.wf v.mem = true)
    (hram0 : (v.chipAt (stackAddr sp)).1 = .ram) (hram1 : (v.chipAt (stackAddr (sp - 1))).1 = .ram)
    (hram2 : (v.chipAt (stackAddr (sp - 2))).1 = .ram) (pc : Word) (p : Byte) (vector : Word) :
    (v.entered sp pc p vector).cell (stackAddr sp) = highByte pc ∧
      (v.entered sp pc p vector).cell (stackAddr (sp - 1)) = lowByte pc ∧
      (v.entered sp pc p vector).cell (stackAddr (sp - 2)) = p := by
  have hreads : ∀ (u : State) (a b c : Word), ((u.readCycle a).readCycle b).cell c = u.cell c :=
    fun u a b c => State.cell_congr (by simp) c
  have hne01 : sp ≠ sp - 1 := by bv_omega
  have hne02 : sp ≠ sp - 2 := by bv_omega
  have hne12 : sp - 1 ≠ sp - 2 := by bv_omega
  have hwf1 := Memory.wf_writeCycle hwf (stackAddr sp) (highByte pc)
  have hwf2 := Memory.wf_writeCycle hwf1 (stackAddr (sp - 1)) (lowByte pc)
  rw [← State.chipAt_congr (v.writeCycle_cfg (stackAddr sp) (highByte pc))] at hram1
  rw [← State.chipAt_congr (v.writeCycle_cfg (stackAddr sp) (highByte pc)),
    ← State.chipAt_congr ((v.writeCycle (stackAddr sp) (highByte pc)).writeCycle_cfg (stackAddr (sp - 1))
      (lowByte pc))] at hram2
  simp only [State.entered, hreads, State.cell_writeCycle_ram, hwf, hwf1, hwf2, hram0, hram1, hram2,
    busAddr_stackAddr_inj, hne01, hne02, hne12, if_true, if_false, and_self]

/-- RTI in the state an event entered gives back the registers with the pushed PC (R609). -/
theorem exec_rti_of_entered {t v : State} {q : Regs} {pc handler vector : Word} {brk : Bool}
    (houtside : t = (v.entered q.s pc (q.p.pack brk) vector).withCpu t.cpu)
    (hregs : t.cpu.regs = { q with pc := handler, s := q.s - 3, p := { q.p with i := true } })
    (hwf : Memory.wf v.mem = true)
    (hram0 : (v.chipAt (stackAddr q.s)).1 = .ram) (hram1 : (v.chipAt (stackAddr (q.s - 1))).1 = .ram)
    (hram2 : (v.chipAt (stackAddr (q.s - 2))).1 = .ram) :
    ∃ u, exec .rti t = .next u ∧ u.cpu.regs = { q with pc := pc } := by
  refine ⟨_, exec_eq_runForm .rti t, (t.runForm_rti _ []).regs.trans ?_⟩
  obtain ⟨hhigh, hlow, hstatus⟩ := State.cell_entered hwf hram0 hram1 hram2 pc (q.p.pack brk) vector
  have hcfg : t.cfg = v.cfg := by rw [houtside]; simp [State.entered]
  have hmem : t.mem = (v.entered q.s pc (q.p.pack brk) vector).mem := by rw [houtside]; simp
  have hread : ∀ (u : State) (a : Word), u.cfg = t.cfg → u.mem = t.mem → (v.chipAt a).1 = .ram →
      u.readAt a = (v.entered q.s pc (q.p.pack brk) vector).cell a := by
    intro u a hc hm hram
    rw [State.readAt_of_ram (by rw [State.chipAt_congr (hc.trans hcfg)]; exact hram)]
    exact State.cell_congr (hm.trans hmem) a
  have hs1 : q.s - 3 + 1 = q.s - 2 := by bv_omega
  have hs2 : q.s - 3 + 2 = q.s - 1 := by bv_omega
  have hs3 : q.s - 3 + 3 = q.s := by bv_omega
  simp only [hregs, hs1, hs2, hs3]
  rw [hread _ _ (by simp) (by simp) hram0, hread _ _ (by simp) (by simp) hram1,
    hread _ _ (by simp) (by simp) hram2, hhigh, hlow, hstatus]
  simp

/-- Settles O41: the bytes the event pushed are the bytes RTI pulls. -/
theorem rtiReturnsFromTheEvent : Obligations.RtiReturnsFromTheEvent := by
  intro s k sp hwf hram0 hram1 hram2
  have hchip : ∀ l a, (s.reads l).chipAt a = s.chipAt a := fun l => State.chipAt_congr (s.reads_cfg l)
  have hmem : ∀ l, Memory.wf (s.reads l).mem = true := fun l => by rw [State.reads_mem]; exact hwf
  constructor
  · obtain ⟨houtside, hregs, -⟩ := s.takeInterrupt_ends k
    exact exec_rti_of_entered houtside hregs (hmem _) (by rw [hchip]; exact hram0)
      (by rw [hchip]; exact hram1) (by rw [hchip]; exact hram2)
  · obtain ⟨houtside, hregs, -⟩ := s.runForm_brk Instr.brk.opcode []
    obtain ⟨u, hu, hfinal⟩ := exec_rti_of_entered houtside hregs (hmem _) (by rw [hchip]; exact hram0)
      (by rw [hchip]; exact hram1) (by rw [hchip]; exact hram2)
    exact ⟨_, u, exec_eq_runForm .brk s, hu, hfinal⟩

end Sys2Proof.Machine
end

section
/-! Nibble RAM, ROM and unconnected space (R77 to R80), and the ROM over cycles, steps and host
operations. -/

namespace Sys2Proof.Machine

/-! ### Nibble RAM (R77, R78) -/

/-- A write to nibble RAM reaches the memory only, with the low four bits. -/
theorem State.writeByte_of_nibble {s : State} {a : Word} (h : (s.chipAt a).1 = .nibbleRam) (v : Byte) :
    s.writeByte a v = { s with mem := Cells.set s.mem (busAddr a) (v &&& 0x0F#8) } := by
  obtain ⟨o, ho⟩ : ∃ o, s.chipAt a = (.nibbleRam, o) := ⟨_, Prod.ext h rfl⟩
  simp only [State.writeByte, State.memAfterWrite, State.vicAfterWrite, State.piaAfterWrite, ho]

theorem State.readByte_of_nibble {s : State} {a : Word} (h : (s.chipAt a).1 = .nibbleRam) :
    s.readByte a =
      (match s.cfg.nibbleUpper with | .zero => 0#4 | .draw => Config.drawnNibble s.draws)
        ++ (s.cell a).extractLsb' 0 4 := by
  obtain ⟨o, ho⟩ : ∃ o, s.chipAt a = (.nibbleRam, o) := ⟨_, Prod.ext h rfl⟩
  simp only [State.readByte, ho] <;> rfl

/-- Whatever is read above it, the low nibble is that of the byte. -/
theorem append_lowNibble_and (u : BitVec 4) (b : Byte) :
    (u ++ b.extractLsb' 0 4 : Byte) &&& 0x0F#8 = b &&& 0x0F#8 := by
  apply BitVec.eq_of_toNat_eq
  have happend : (u ++ b.extractLsb' 0 4 : Byte).toNat = u.toNat * 2 ^ 4 + (b.extractLsb' 0 4).toNat :=
    toNat_append_eq_add u _
  rw [BitVec.toNat_and, BitVec.toNat_and, happend, toNat_lowNibble]
  simp only [BitVec.toNat_ofNat, Nat.reducePow]
  rw [and_lowDigitMask, and_lowDigitMask]
  omega

theorem zero_append_lowNibble (b : Byte) : (0#4 ++ b.extractLsb' 0 4 : Byte) = b &&& 0x0F#8 := by
  apply BitVec.eq_of_toNat_eq
  have happend : (0#4 ++ b.extractLsb' 0 4 : Byte).toNat =
      (0#4).toNat * 2 ^ 4 + (b.extractLsb' 0 4).toNat := toNat_append_eq_add 0#4 _
  rw [BitVec.toNat_and, happend, toNat_lowNibble]
  simp only [BitVec.toNat_ofNat, Nat.reducePow, Nat.reduceMod]
  rw [and_lowDigitMask]
  omega

theorem lowNibble_and (b : Byte) : (b &&& 0x0F#8).extractLsb' 0 4 = b.extractLsb' 0 4 := by
  apply BitVec.eq_of_toNat_eq
  rw [toNat_lowNibble, toNat_lowNibble, BitVec.toNat_and]
  simp only [BitVec.toNat_ofNat, Nat.reducePow, Nat.reduceMod]
  rw [and_lowDigitMask]
  omega

/-- Settles O47: the cell holds the low four bits, and a read puts the upper four above them. -/
theorem nibbleRamKeepsFourBits : Obligations.NibbleRamKeepsFourBits := by
  intro s a v hwf h t
  have ht : t = { s with mem := Cells.set s.mem (busAddr a) (v &&& 0x0F#8) } :=
    State.writeByte_of_nibble h v
  have hcfg : t.cfg = s.cfg := s.writeByte_cfg a v
  have hcell : ∀ b, t.cell b = if busAddr b = busAddr a then v &&& 0x0F#8 else s.cell b :=
    fun b => by rw [ht]; exact Cells.get_set hwf ..
  refine ⟨fun b hb => ?_, fun b hb => ?_⟩
  · have hchip : (t.chipAt b).1 = .nibbleRam := by
      rw [State.chipAt_congr hcfg, s.chipAt_eq_of_busAddr_eq hb, h]
    have hread := State.readByte_of_nibble hchip
    rw [hcell, if_pos hb, lowNibble_and, hcfg] at hread
    have hdraws : t.drawsAt b = (s.cfg.nibbleUpper == .draw) := by
      simp only [State.drawsAt, hchip, hcfg]
    refine ⟨by rw [hread]; exact append_lowNibble_and _ v, fun hzero => ?_, fun hdraw => ?_⟩
    · rw [hread, hzero]
      refine ⟨zero_append_lowNibble v, ?_⟩
      rw [State.afterRead, hdraws, hzero]
      rfl
    · rw [hread, hdraw, ht]
      refine ⟨rfl, ?_⟩
      rw [← ht, State.afterRead_draws, hdraws, hdraw, ht]
      rfl
  · rw [ht]
    apply State.readByte_withMem
    rw [Cells.get_set hwf, if_neg hb]
    rfl

/-! ### ROM and unconnected space (R79, R80) -/

theorem State.writeByte_of_rom {s : State} {a : Word} (h : (s.chipAt a).1 = .rom) (v : Byte) :
    s.writeByte a v = s := by
  obtain ⟨o, ho⟩ : ∃ o, s.chipAt a = (.rom, o) := ⟨_, Prod.ext h rfl⟩
  simp only [State.writeByte, State.memAfterWrite, State.vicAfterWrite, State.piaAfterWrite, ho]

theorem State.readByte_of_rom {s : State} {a : Word} (h : (s.chipAt a).1 = .rom) :
    s.readByte a = s.cell a := by
  obtain ⟨o, ho⟩ : ∃ o, s.chipAt a = (.rom, o) := ⟨_, Prod.ext h rfl⟩
  simp only [State.readByte, ho]

theorem State.afterRead_of_rom {s : State} {a : Word} (h : (s.chipAt a).1 = .rom) : s.afterRead a = s := by
  simp only [State.afterRead, State.drawsAt, h, Bool.false_eq_true, if_false]

theorem State.writeByte_of_unconnected {s : State} {a : Word} (h : (s.chipAt a).1 = .unconnected)
    (v : Byte) : s.writeByte a v = s := by
  obtain ⟨o, ho⟩ : ∃ o, s.chipAt a = (.unconnected, o) := ⟨_, Prod.ext h rfl⟩
  simp only [State.writeByte, State.memAfterWrite, State.vicAfterWrite, State.piaAfterWrite, ho]

theorem State.readByte_of_unconnected {s : State} {a : Word} (h : (s.chipAt a).1 = .unconnected) :
    s.readByte a = Config.openBus s.draws := by
  obtain ⟨o, ho⟩ : ∃ o, s.chipAt a = (.unconnected, o) := ⟨_, Prod.ext h rfl⟩
  simp only [State.readByte, ho]

theorem State.afterRead_of_unconnected {s : State} {a : Word} (h : (s.chipAt a).1 = .unconnected) :
    s.afterRead a = { s with draws := s.draws + 1 } := by
  simp only [State.afterRead, State.drawsAt, h, if_true]

/-- A ROM address of the machine `s` and its cell there, in a machine of the same configuration. -/
structure State.HoldsRom (s : State) (a : Word) (t : State) : Prop where
  cfg : t.cfg = s.cfg
  wf : Memory.wf t.mem = true
  cell : t.cell a = s.cell a

theorem State.HoldsRom.readByte {s t : State} {a : Word} (h : s.HoldsRom a t)
    (hrom : (s.chipAt a).1 = .rom) : t.readByte a = s.readByte a := by
  rw [State.readByte_of_rom hrom, State.readByte_of_rom (by rw [State.chipAt_congr h.cfg, hrom]), h.cell]

/-- A cycle writes no ROM cell: a write of its own address is ignored (R79). -/
theorem State.HoldsRom.machineCycle {s t : State} {a : Word} (hrom : (s.chipAt a).1 = .rom)
    (h : s.HoldsRom a t) : s.HoldsRom a t.machineCycle := by
  refine ⟨t.machineCycle_cfg.trans h.cfg, Memory.wf_machineCycle h.wf, ?_⟩
  rw [← h.cell]
  rcases t.machineCycle_cases with ⟨c, e⟩ | ⟨c, w, e⟩ | ⟨c, w, v, e⟩ <;> rw [e]
  · exact State.cell_congr t.vicStep_mem a
  · exact State.cell_congr (t.readCycle_mem w) a
  · have hwf : Memory.wf t.vicStep.mem = true := by simpa using h.wf
    rw [← State.cell_congr t.vicStep_mem a]
    show (t.vicStep.writeByte w v).cell a = t.vicStep.cell a
    by_cases hw : busAddr a = busAddr w
    · have hchip : (t.vicStep.chipAt w).1 = .rom := by
        rw [← t.vicStep.chipAt_eq_of_busAddr_eq hw, State.chipAt_congr (t.vicStep_cfg.trans h.cfg), hrom]
      rw [State.writeByte_of_rom hchip]
    · exact State.cell_writeByte_of_ne hwf hw v

theorem State.HoldsRom.congr {s t u : State} {a : Word} (h : s.HoldsRom a t) (hcfg : u.cfg = t.cfg)
    (hmem : u.mem = t.mem) : s.HoldsRom a u :=
  ⟨hcfg.trans h.cfg, hmem ▸ h.wf, (State.cell_congr hmem a).trans h.cell⟩

/-- Settles O48: the rules of a write and a read for the two kinds of chip; no cycle writes a ROM cell. -/
theorem romAndUnconnectedIgnoreWrites : Obligations.RomAndUnconnectedIgnoreWrites := by
  refine fun s a => ⟨fun hrom => ⟨State.writeByte_of_rom hrom, State.readByte_of_rom hrom,
    State.afterRead_of_rom hrom, fun hwf => ?_⟩, fun h => ⟨State.writeByte_of_unconnected h,
    State.readByte_of_unconnected h, State.afterRead_of_unconnected h⟩⟩
  have hself : s.HoldsRom a s := ⟨rfl, hwf, rfl⟩
  have hcycle : ∀ t, s.HoldsRom a t → s.HoldsRom a t.machineCycle := fun _ => .machineCycle hrom
  refine ⟨(hcycle s hself).readByte hrom, fun t ht => ?_, fun op => ?_⟩
  · exact (step_keeps hcycle hself ht).readByte hrom
  · refine (State.hostStep_keeps (P := s.HoldsRom a) (fun _ _ h => h.congr rfl rfl) hcycle
      (fun t h => h.congr t.cpuReset_cfg t.cpuReset_mem) (fun _ _ h => h.congr rfl rfl)
      (fun _ _ h => h.congr rfl rfl) (fun _ _ h => h.congr rfl rfl) (fun _ h => h.congr rfl rfl)
      hself op).readByte hrom

end Sys2Proof.Machine
end

section
/-! The bytes fetched from storage (R150), the undocumented opcodes (R128, R613) and the reset state. -/

namespace Sys2Proof.Machine

/-! ### Fetching from RAM and ROM -/

/-- A cycle's read of a RAM or ROM address returns its cell. -/
theorem State.readAt_of_storable {s : State} {a : Word} (h : s.storable a = true) :
    s.readAt a = s.cell a := by
  have hchip : s.vicStep.chipAt a = s.chipAt a := State.chipAt_congr s.vicStep_cfg a
  rw [← State.cell_congr s.vicStep_mem a]
  unfold State.storable at h
  split at h
  next hram => exact State.readByte_of_ram (by rw [hchip]; exact hram)
  next hrom => exact State.readByte_of_rom (by rw [hchip]; exact hrom)
  next => cases h

theorem State.storable_congr {s t : State} (h : t.cfg = s.cfg) (a : Word) : t.storable a = s.storable a := by
  rw [State.storable, State.storable, State.chipAt_congr h]

/-- Cycles that leave the memory leave the byte that a fetch from storage reads. -/
theorem State.readAt_of_kept {s t : State} {a : Word} (hcfg : t.cfg = s.cfg) (hcell : t.cell a = s.cell a)
    (h : s.storable a = true) : t.readAt a = s.cell a := by
  rw [State.readAt_of_storable (by rw [State.storable_congr hcfg]; exact h), hcell]

theorem State.cell_writeCycle_of_ne {s : State} (hwf : Memory.wf s.mem = true) {a b : Word}
    (h : busAddr b ≠ busAddr a) (v : Byte) : (s.writeCycle a v).cell b = s.cell b := by
  have hwf' : Memory.wf s.vicStep.mem = true := by simpa using hwf
  rw [← State.cell_congr s.vicStep_mem b]
  exact State.cell_writeByte_of_ne hwf' h v

/-- The first operand byte of a three-byte instruction is fetched into a latch (R161 to R164, R299,
R300). -/
theorem Form.exists_operandRow {f : Form} (h : f.length = 3) :
    ∃ g q, f.rows.tail = operandRow g :: q := by
  cases f
  case read _ m | write _ m | rmw _ m =>
    cases m
    case abs | absX | absY => exact ⟨_, _, rfl⟩
    case imm | zp | zpX | zpY | indX | indY => cases h
  case jmpAbs | jmpInd | jsr => exact ⟨_, _, rfl⟩
  case branch | implied | rts | rti | brk | push | pull => cases h

/-- The engine after c2 of a three-byte instruction: two reads, and PC at the third byte. -/
theorem State.cycles_two_of_length {s : State} {i : Instr} (h : s.atInstr)
    (hop : s.byteAtPc = i.opcode) (hlen : (formOf i).length = 3) :
    ∃ c, State.cycles 2 s = (s.reads [s.cpu.regs.pc, s.cpu.regs.pc + 1]).withCpu c ∧
      c.regs.pc = s.cpu.regs.pc + 2 := by
  have hfault : s.cpu.fault = none := h.1
  obtain ⟨g, q, hrows⟩ := Form.exists_operandRow hlen
  have hc1 := State.machineCycle_of_documented h (by rw [hop]; exact documented_opcode i)
  have htable : (formOf i).rows[1]? = some (operandRow g) := by
    rw [Form.rows_eq_cons, hrows]; rfl
  rw [hop] at hc1
  have hrow : s.machineCycle.seqRows[s.machineCycle.cpu.micro.cyc]? = some (operandRow g) := by
    simp [hc1, State.seqRows, opcodeRows_opcode, htable]
  have hc2 := State.machineCycle_of_row (s := s.machineCycle) (by simp [hc1, hfault]) (by simp [hc1]) hrow
  rw [State.rowCycle_of_read (a := s.machineCycle.cpu.regs.pc) rfl] at hc2
  refine ⟨s.machineCycle.machineCycle.cpu, ?_, ?_⟩
  · show s.machineCycle.machineCycle = _
    rw [hc2]
    simp [hc1]
  · rw [hc2]
    simp [operandRow, hc1, BitVec.add_assoc]

/-- The three fetches give the encoding if each gives the byte at its place. -/
theorem State.fetchBytes_eq_encode_append {s : State} {i : Instr} (hfirst : s.byteAtPc = i.opcode)
    (hsecond : ∀ h : 1 < (encode i).length, (State.cycles 1 s).byteAtPc = (encode i)[1])
    (hthird : ∀ h : 2 < (encode i).length,
      (State.cycles (if s.byteAtPc = 0x20#8 then 5 else 2) s).byteAtPc = (encode i)[2]) :
    ∃ rest, s.fetchBytes = encode i ++ rest := by
  have hbounds := encode_length_bounds i
  rw [Instr.opcode] at hfirst
  match henc : encode i with
  | [] => simp [henc] at hbounds
  | [o] =>
    simp only [henc] at hfirst
    exact ⟨s.fetchBytes.drop 1, by simp [State.fetchBytes, hfirst]⟩
  | [o, b] =>
    simp only [henc] at hfirst hsecond
    exact ⟨s.fetchBytes.drop 2, by simp [State.fetchBytes, hfirst, hsecond]⟩
  | [o, b, b'] =>
    simp only [henc] at hfirst hsecond hthird
    exact ⟨[], by simp [State.fetchBytes, hsecond, hthird]; simp [hfirst]⟩
  | _ :: _ :: _ :: _ :: _ => exact absurd hbounds.2 (by simp [henc])

/-- Settles O30: the bytes fetched are the cells that hold the encoding, so the step decodes it. -/
theorem stepRunsTheInstructionStoredAtPc : Obligations.StepRunsTheInstructionStoredAtPc := by
  intro s i q hwf h hstored hjsr
  have hbounds := encode_length_bounds i
  have hfirst : s.byteAtPc = i.opcode := by
    obtain ⟨hs, hc⟩ := hstored 0 (by omega)
    rw [BitVec.add_zero] at hs hc
    have hread : s.readAt q.pc = s.cell q.pc := State.readAt_of_storable hs
    rw [Instr.opcode, List.headD_eq_head?_getD, List.head?_eq_getElem?, List.getElem?_eq_getElem (by omega),
      Option.getD_some, ← hc, ← hread]
    rfl
  have hc1 := State.machineCycle_of_documented h (by rw [hfirst]; exact documented_opcode i)
  refine (State.fetchBytes_eq_encode_append hfirst ?second ?third).elim fun rest hbytes =>
    step_of_decode h (rest := rest) (by rw [hbytes, decodeAndEncodeAgree.1])
  case second =>
    intro hlen
    obtain ⟨hs, hc⟩ := hstored 1 hlen
    have hbyte : (State.cycles 1 s).byteAtPc = (s.readCycle q.pc).readAt (q.pc + 1) := by
      simp [State.cycles, hc1, State.byteAtPc_withCpu, q]
    rw [hbyte, ← hc]
    exact State.readAt_of_kept (s.readCycle_cfg _) (State.cell_congr (s.readCycle_mem _) _) hs
  case third =>
    intro hlen
    obtain ⟨hs, hc⟩ := hstored 2 hlen
    rw [← hc]
    by_cases hform : formOf i = .jsr
    · have hop : s.byteAtPc = 0x20#8 := hfirst.trans ((opcode_eq_jsr_iff i).2 hform)
      obtain ⟨hhigh, hlow⟩ := hjsr hform
      obtain ⟨c, hc5, hpc⟩ := State.cycles_five_of_jsr h hop
      rw [if_pos hop, hc5, State.byteAtPc_withCpu, hpc]
      refine State.readAt_of_kept (by simp [State.jsrPushed]) ?_ hs
      have hwf' : Memory.wf (s.reads [q.pc, q.pc + 1, stackAddr q.s]).mem = true := by
        rw [State.reads_mem]; exact hwf
      calc s.jsrPushed.cell (q.pc + 2)
        _ = ((s.reads [q.pc, q.pc + 1, stackAddr q.s]).writeCycle (stackAddr q.s)
              (highByte (q.pc + 2))).cell (q.pc + 2) :=
          State.cell_writeCycle_of_ne (Memory.wf_writeCycle hwf' _ _) hlow _
        _ = (s.reads [q.pc, q.pc + 1, stackAddr q.s]).cell (q.pc + 2) :=
          State.cell_writeCycle_of_ne hwf' hhigh _
        _ = s.cell (q.pc + 2) := State.cell_congr (s.reads_mem _) _
    · have hop : s.byteAtPc ≠ 0x20#8 := by rw [hfirst]; exact mt (opcode_eq_jsr_iff i).1 hform
      obtain ⟨c, hc2, hpc⟩ := State.cycles_two_of_length h hfirst
        (by rw [← length_encode]; omega)
      rw [if_neg hop, hc2, State.byteAtPc_withCpu, hpc]
      exact State.readAt_of_kept (s.reads_cfg _) (State.cell_congr (s.reads_mem _) _) hs

/-! ### Undocumented opcodes -/

/-- The list of R128 in the order of the opcodes. -/
theorem undocumentedOpcodes_eq_filter :
    undocumentedOpcodes = ((List.range 256).map (BitVec.ofNat 8)).filter (!documented ·) := by
  decide

theorem mem_undocumentedOpcodes_iff (b : Byte) : b ∈ undocumentedOpcodes ↔ documented b = false := by
  rw [undocumentedOpcodes_eq_filter, List.mem_filter, Bool.not_eq_true']
  refine and_iff_right (List.mem_map.2 ⟨b.toNat, List.mem_range.2 b.isLt, ?_⟩)
  simp

/-- Settles O42: the list is the complement of the documented opcodes; under `fault` the fetch is the whole
step, under `nop2` the step runs NOP's table. -/
theorem undocumentedOpcodesFollowThePolicy : Obligations.UndocumentedOpcodesFollowThePolicy := by
  refine ⟨rfl, mem_undocumentedOpcodes_iff, fun s h hmem => ?_⟩
  have hd := (mem_undocumentedOpcodes_iff _).1 hmem
  have hstep := step_of_undocumented h hd
  cases hp : s.cfg.illegalPolicy with
  | fault =>
    have htake : s.takeIllegal s.byteAtPc = (s.readCycle s.cpu.regs.pc).withCpu
        (s.takeIllegal s.byteAtPc).cpu := by
      simp only [State.takeIllegal, hp, State.runRows_singleton]
      rw [State.rowCycle_of_read (a := s.cpu.regs.pc) rfl]
      simp [State.startSeq]
    have hcpu : (s.takeIllegal s.byteAtPc).cpu.fault = some (.illegalOpcode s.cpu.regs.pc s.byteAtPc) ∧
        (s.takeIllegal s.byteAtPc).cpu.micro.cyc = 0 ∧
        (s.takeIllegal s.byteAtPc).cpu.regs = { s.cpu.regs with pc := s.cpu.regs.pc + 1 } := by
      simp only [State.takeIllegal, hp, State.runRows_singleton]
      rw [State.rowCycle_of_read (a := s.cpu.regs.pc) rfl]
      simp [opcodeRow, hd]
    obtain ⟨hfault, hcyc, hregs⟩ := hcpu
    refine ⟨_, hstep, hcyc, hregs, fun _ => ⟨htake, hfault, fun u hu => ?_⟩, by simp⟩
    simp only [step, hfault, Option.isSome_some, if_true] at hu
    cases hu
    rw [State.machineCycle_of_fault (by simp [hfault]), State.vicStep_cpu]
  | nop2 =>
    obtain ⟨houtside, hregs, hcyc, -, hfault, -⟩ := s.runForm_implied .nop s.byteAtPc []
    rw [← State.takeIllegal_nop2 hp] at houtside hregs hcyc hfault
    exact ⟨_, hstep, hcyc, hregs, by simp, fun _ => ⟨houtside, hfault.trans h.1⟩⟩

/-! ### The reset state -/

theorem Vic.startsWith_initial (c : Config) : (Vic.initial c).startsWith c.vicRegInit := by
  refine ⟨rfl, rfl, rfl, rfl, rfl, rfl, rfl, rfl, rfl, rfl, rfl, rfl, fun k => ?_⟩
  cases k <;> exact ⟨rfl, fun _ => rfl⟩

/-- Settles O34: the reset state is one state, and every fact is read off it. -/
theorem resetStateMeetsTheInvariant : Obligations.ResetStateMeetsTheInvariant := by
  exact ⟨by decide, rfl, rfl, by decide, by decide, rfl, Vic.startsWith_initial Config.reference, rfl, rfl,
    rfl, rfl⟩

end Sys2Proof.Machine
end

section
/-! What an instruction leaves unchanged: everything but the bytes it stores and the raster (R70, R423). -/

namespace Sys2Proof.Machine

/-! ### VIC registers but for the raster mirror -/

/-- The registers agree but in register 4 and bit 7 of register 3, which the raster mirror writes (R423). -/
def Vic.SameRegs (w u : Vic) : Prop :=
  (∀ (k : Nat) (h : k < 16), k ≠ 3 → k ≠ 4 → u.reg[k] = w.reg[k]) ∧
    u.reg[3] &&& 0x7F#8 = w.reg[3] &&& 0x7F#8

theorem Vic.SameRegs.of_eq {w u : Vic} (h : u.reg = w.reg) : w.SameRegs u := by
  simp [Vic.SameRegs, h]

theorem Vic.SameRegs.trans {w u x : Vic} (h : w.SameRegs u) (h' : u.SameRegs x) : w.SameRegs x :=
  ⟨fun k hk h3 h4 => (h'.1 k hk h3 h4).trans (h.1 k hk h3 h4), h'.2.trans h.2⟩

theorem Vic.sameRegs_mirror (w : Vic) (x : Nat) : w.SameRegs (w.mirror x) := by
  refine ⟨fun k hk h3 h4 => w.mirror_reg_of_ne x hk h3 h4, ?_⟩
  apply BitVec.eq_of_toNat_eq
  rw [toNat_and_0x7F, toNat_and_0x7F, Vic.toNat_mirror_reg_three]
  omega

theorem State.sameRegs_vicStep (s : State) : s.vic.SameRegs s.vicStep.vic := by
  rcases Nat.lt_or_ge (s.vic.h + 4) s.profile.width with hin | hend
  · exact .of_eq (State.vicStep_counters_inside_line hin).2.2.1
  · obtain ⟨-, -, hreg, -⟩ := State.vicStep_counters_line_end hend
    exact (s.vic.sameRegs_mirror _).trans (.of_eq hreg)

/-! ### Runs that store to listed addresses only -/

/-- From `s` to `t` no byte was stored but at the listed addresses, and nothing else of the memory, the PIA,
the VIC registers and the host's fields changed. -/
structure State.Spares (s : State) (stored : List Word) (t : State) : Prop where
  cfg : t.cfg = s.cfg
  profile : t.profile = s.profile
  sig : t.sig = s.sig
  paused : t.paused = s.paused
  skipRender : t.skipRender = s.skipRender
  wf : Memory.wf t.mem = true
  cell : ∀ a : Word, (∀ w ∈ stored, busAddr w ≠ busAddr a) → t.cell a = s.cell a
  pia : (∀ w ∈ stored, (s.chipAt w).1 ≠ .pia) → t.pia = s.pia
  vic : (∀ w ∈ stored, (s.chipAt w).1 ≠ .vic) → s.vic.SameRegs t.vic

theorem State.Spares.refl {s : State} (hwf : Memory.wf s.mem = true) (stored : List Word) :
    s.Spares stored s :=
  ⟨rfl, rfl, rfl, rfl, rfl, hwf, fun _ _ => rfl, fun _ => rfl, fun _ => .of_eq rfl⟩

section
variable {s t : State} {stored : List Word} (h : s.Spares stored t)
include h

theorem State.Spares.withCpu (c : Cpu) : s.Spares stored (t.withCpu c) :=
  ⟨h.cfg, h.profile, h.sig, h.paused, h.skipRender, h.wf, h.cell, h.pia, h.vic⟩

theorem State.Spares.vicStep : s.Spares stored t.vicStep :=
  ⟨t.vicStep_cfg.trans h.cfg, t.vicStep_profile.trans h.profile, t.vicStep_sig.trans h.sig,
    t.vicStep_paused.trans h.paused, t.vicStep_skipRender.trans h.skipRender,
    by rw [State.vicStep_mem]; exact h.wf,
    fun a ha => (State.cell_congr t.vicStep_mem a).trans (h.cell a ha),
    fun hp => t.vicStep_pia.trans (h.pia hp), fun hv => (h.vic hv).trans t.sameRegs_vicStep⟩

theorem State.Spares.readCycle (a : Word) : s.Spares stored (t.readCycle a) := by
  obtain ⟨hcfg, hprofile, hsig, hpaused, hskip, hwf, hcell, hpia, hvic⟩ := h.vicStep
  exact ⟨hcfg, hprofile, hsig, hpaused, hskip, hwf, hcell, hpia, hvic⟩

theorem State.Spares.writeByte {a : Word} (ha : a ∈ stored) (v : Byte) :
    s.Spares stored (t.writeByte a v) := by
  refine ⟨h.cfg, h.profile, h.sig, h.paused, h.skipRender, Memory.wf_writeByte h.wf a v,
    fun b hb => ?_, fun hp => ?_, fun hv => ?_⟩
  · rw [State.cell_writeByte_of_ne h.wf (hb a ha).symm, h.cell b hb]
  · have hchip : (t.chipAt a).1 ≠ .pia := by rw [State.chipAt_congr h.cfg]; exact hp a ha
    rw [← h.pia hp]
    simp only [State.writeByte, State.piaAfterWrite]
    split
    next o ho => exact absurd (congrArg Prod.fst ho) hchip
    next => rfl
  · have hchip : (t.chipAt a).1 ≠ .vic := by rw [State.chipAt_congr h.cfg]; exact hv a ha
    refine (h.vic hv).trans (.of_eq ?_)
    simp only [State.writeByte, State.vicAfterWrite]
    split
    next o ho => exact absurd (congrArg Prod.fst ho) hchip
    next => rfl

theorem State.Spares.writeCycle {a : Word} (ha : a ∈ stored) (v : Byte) :
    s.Spares stored (t.writeCycle a v) := h.vicStep.writeByte ha v

omit h in
theorem State.Spares.reads (h : s.Spares stored t) (l : List Word) : s.Spares stored (t.reads l) := by
  induction l generalizing t with
  | nil => exact h
  | cons a l ih => exact ih (h.readCycle a)

theorem State.Spares.of_outside {u : State} (hu : u = t.withCpu u.cpu) : s.Spares stored u :=
  hu ▸ h.withCpu u.cpu

end

/-- Rows that only read store nothing. -/
theorem State.Spares.runRows {s t : State} {stored : List Word} {rows : List Row}
    (hread : ∀ r ∈ rows, ∀ c, ∃ a, r.access c = .read a) (bytes : List Byte) (h : s.Spares stored t) :
    s.Spares stored (State.runRows rows bytes t) := by
  induction rows generalizing bytes t with
  | nil => exact h
  | cons r rest ih =>
    have hcycle : ∀ g f, s.Spares stored (t.rowCycle r g f) := by
      intro g f
      obtain ⟨a, ha⟩ := hread r (List.mem_cons_self ..) t.cpu
      rw [State.rowCycle_of_read ha]
      exact (h.readCycle a).withCpu _
    rw [State.runRows]
    generalize (if r.stream = true then bytes.head? else none) = g
    split
    · exact hcycle _ _
    · exact ih (fun q hq => hread q (List.mem_cons_of_mem _ hq)) _ (hcycle _ _)

/-! ### The forms -/

/-- Does a form store to memory (R154, R300, R303, R320, R321)? -/
def Form.stores : Form → Bool
  | .write _ _ | .rmw _ _ | .jsr | .brk | .push _ => true
  | .read _ _ | .implied _ | .branch _ | .jmpAbs | .jmpInd | .rts | .rti | .pull _ => false

theorem Form.rows_read_of_not_stores {f : Form} (h : f.stores = false) :
    ∀ r ∈ f.rows, ∀ c, ∃ a, r.access c = .read a := by
  cases f
  case read op m =>
    cases m <;> simp [Form.rows, readRows, immediateRows, Mode.addressRows, fetchRow, operandRow, executeRow]
  case implied | branch | jmpAbs | jmpInd | rts | rti | pull =>
    simp [Form.rows, impliedRows, branchRows, jmpAbsRows, jmpIndRows, rtsRows, rtiRows, pullRows, fetchRow,
      operandRow, dummyPcRow, dummyStackRow, pullRow]
  case write | rmw | jsr | brk | push => cases h

theorem exists_encode_eq_cons (i : Instr) : ∃ rest, encode i = i.opcode :: rest := by
  have hbounds := encode_length_bounds i
  match henc : encode i with
  | [] => simp [henc] at hbounds
  | o :: rest => exact ⟨rest, by simp [Instr.opcode, henc]⟩

/-- An instruction stores to the addresses of its form only. -/
theorem State.spares_runForm {s : State} (hwf : Memory.wf s.mem = true) (i : Instr) :
    s.Spares (s.storedAt i) (s.runForm (formOf i) (encode i)) := by
  have hself : ∀ l, s.Spares (s.storedAt i) (s.reads l) := fun l => (State.Spares.refl hwf _).reads l
  have hlen := length_encode i
  obtain ⟨rest, henc⟩ := exists_encode_eq_cons i
  cases hform : formOf i
  case write g m =>
    rw [hform] at hlen
    have hea : (s.operandView m (encode i) true).ea ∈ s.storedAt i := by simp [State.storedAt, hform]
    exact ((hself _).writeCycle hea _).of_outside
      (s.runForm_write g m (mode_ne_imm_of_write hform) (encode i) hlen.ge).outside
  case rmw op m =>
    rw [hform] at hlen
    have hea : (s.operandView m (encode i) true).ea ∈ s.storedAt i := by simp [State.storedAt, hform]
    exact ((((hself _).readCycle _).writeCycle hea _).writeCycle hea _).of_outside
      (s.runForm_rmw op m (mode_ne_imm_of_rmw hform) (encode i) hlen.ge).outside
  case push r =>
    have hsp : stackAddr s.cpu.regs.s ∈ s.storedAt i := by simp [State.storedAt, hform]
    rw [henc]
    exact ((hself _).writeCycle hsp _).of_outside (s.runForm_push r i.opcode rest).outside
  case brk =>
    have hsp : ∀ w ∈ [stackAddr s.cpu.regs.s, stackAddr (s.cpu.regs.s - 1), stackAddr (s.cpu.regs.s - 2)],
        w ∈ s.storedAt i := by simp [State.storedAt, hform]
    rw [henc]
    exact ((((((hself _).writeCycle (hsp _ (by simp)) _).writeCycle (hsp _ (by simp)) _).writeCycle
      (hsp _ (by simp)) _).readCycle _).readCycle _).of_outside (s.runForm_brk i.opcode rest).outside
  case jsr =>
    have hsp : ∀ w ∈ [stackAddr s.cpu.regs.s, stackAddr (s.cpu.regs.s - 1)], w ∈ s.storedAt i := by
      simp [State.storedAt, hform]
    rw [hform] at hlen
    obtain ⟨o, lo, hi, hthree⟩ := List.length_eq_three.1 hlen
    rw [hthree]
    exact ((((hself _).writeCycle (hsp _ (by simp)) _).writeCycle (hsp _ (by simp)) _).readCycle
      _).of_outside (s.runForm_jsr o lo hi []).outside
  all_goals
    exact ((State.Spares.refl hwf _).withCpu _).runRows
      (Form.rows_read_of_not_stores rfl) _

/-- Settles O44: the instruction's cycles read, or write at the addresses of its form. -/
theorem instructionsChangeOnlyTheBytesTheyStore : Obligations.InstructionsChangeOnlyTheBytesTheyStore := by
  intro i s t hwf ht
  rw [exec_eq_runForm] at ht
  cases ht
  have h := State.spares_runForm hwf i
  exact ⟨h.cell, h.pia, h.vic, ⟨h.cfg, h.profile⟩, h.sig, h.paused, h.skipRender⟩

end Sys2Proof.Machine
end

section
/-! A machine that starts: its memory, its ROM images and its reset (R83, R85, R520, R702 to R704). -/

namespace Sys2Proof.Machine

/-! ### Lists of rows of one length -/

theorem getElem?_flatten_of_length {α : Type} {m : Nat} {rows : List (List α)}
    (h : ∀ row ∈ rows, row.length = m) (k : Nat) {n : Nat} (hn : n < m) :
    rows.flatten[k * m + n]? = (rows.getD k [])[n]? := by
  induction rows generalizing k with
  | nil => simp
  | cons row rows ih =>
    have hrow : row.length = m := h row (List.mem_cons_self ..)
    cases k with
    | zero =>
      rw [List.flatten_cons, Nat.zero_mul, Nat.zero_add, List.getElem?_append_left (hrow ▸ hn)]
      rfl
    | succ k =>
      have hplace : (k + 1) * m + n = row.length + (k * m + n) := by rw [hrow]; ring
      rw [List.flatten_cons, hplace, List.getElem?_append_right (Nat.le_add_right ..),
        Nat.add_sub_cancel_left, ih fun r hr => h r (List.mem_cons_of_mem _ hr)]
      rfl

theorem length_flatten_of_length {α : Type} {m : Nat} {rows : List (List α)}
    (h : ∀ row ∈ rows, row.length = m) : rows.flatten.length = rows.length * m := by
  rw [List.length_flatten, List.sum_eq_card_nsmul (rows.map List.length) m, List.length_map, smul_eq_mul]
  intro n hn
  obtain ⟨row, hrow, rfl⟩ := List.mem_map.1 hn
  exact h row hrow

/-! ### The cells initialisation lists -/

/-- Every entry after consecutive values are put is an old one or one of those. -/
theorem Cells.mem_load {w : Nat} {m : Cells w} {k : Nat} {l : List (BitVec w)} {p : Nat × BitVec w}
    (h : p ∈ Cells.load m k l) : p ∈ m ∨ (k ≤ p.1 ∧ p.1 < k + l.length ∧ p.2 ∈ l) := by
  induction l generalizing m k with
  | nil => exact .inl h
  | cons v rest ih =>
    rcases ih h with h | ⟨hle, hlt, hmem⟩
    · rcases Cells.mem_set h with h | rfl
      · exact .inl h
      · exact .inr ⟨Nat.le_refl k, by simp, List.mem_cons_self ..⟩
    · refine .inr ⟨by omega, ?_, List.mem_cons_of_mem _ hmem⟩
      rw [List.length_cons]
      omega

/-- A cell the memory may list: in the space, of a storage chip, and below 16 in nibble RAM (R40, R70,
R77). -/
def CellOk (c : Config) (p : Nat × Byte) : Prop :=
  p.1 < 0x4000 ∧ ((owner c.busMap p.1).1 = .ram ∨ (owner c.busMap p.1).1 = .rom ∨
    ((owner c.busMap p.1).1 = .nibbleRam ∧ p.2.toNat < 16))

section
variable {c : Config} (hdisjoint : busMapDisjoint c.busMap = true)
  (hspace : busMapInSpace c.busMap = true)
include hdisjoint hspace

/-- A pre-load lists cells of its range only, low nibbles in nibble RAM (R77, R83). -/
theorem cellOk_loadRange {m : Memory} (hm : ∀ p ∈ m, CellOk c p) {q : Nat × List Byte}
    (hq : preloadFits c.busMap q = true) : ∀ p ∈ loadRange c m q, CellOk c p := by
  intro p hp
  obtain ⟨r, hr, hfit⟩ := List.any_eq_true.1 hq
  obtain ⟨hrange, hchip⟩ := Bool.and_eq_true_iff.1 hfit
  obtain ⟨hbase, hsize⟩ := of_decide_eq_true hrange
  have hend : r.base + r.size ≤ 0x4000 := of_decide_eq_true (List.all_eq_true.1 hspace r hr)
  rcases Cells.mem_load hp with hp | ⟨hle, hlt, hmem⟩
  · exact hm p hp
  have hlen : (if (owner c.busMap q.1).1 = .nibbleRam then q.2.map (· &&& 0x0F#8) else q.2).length =
      r.size := by
    rw [hsize]; split <;> simp
  rw [hlen] at hlt
  have howner : owner c.busMap p.1 = (r.chip, p.1 - r.base) := owner_of_mem hdisjoint hr (by omega)
  have hfirst : owner c.busMap q.1 = (r.chip, q.1 - r.base) := owner_of_mem hdisjoint hr (by omega)
  refine ⟨by omega, ?_⟩
  rw [howner]
  rw [hfirst] at hmem
  cases hkind : r.chip
  case ram => exact .inl rfl
  case rom => exact .inr (.inl rfl)
  case nibbleRam =>
    rw [hkind] at hmem
    obtain ⟨b, -, hb⟩ := List.mem_map.1 hmem
    refine .inr (.inr ⟨rfl, ?_⟩)
    rw [← hb, BitVec.toNat_and]
    exact Nat.lt_of_le_of_lt Nat.and_le_right (by decide)
  all_goals simp [hkind] at hchip

/-- Everything from bus 0x2000 on is ROM (R85, R87). -/
theorem owner_rom_of_le (hcover : busMapCovers c.busMap = true) (hworks : busMapWorks c = true) {a : Nat}
    (hlo : 0x2000 ≤ a) (hhi : a < 0x4000) : (owner c.busMap a).1 = .rom := by
  obtain ⟨r, hr, hin⟩ := exists_region hspace hdisjoint hcover hhi
  rw [owner_of_mem hdisjoint hr hin]
  unfold busMapWorks at hworks
  simp only [Bool.and_eq_true] at hworks
  have hregion := List.all_eq_true.1 hworks.1.1.1.1 r hr
  rw [Bool.or_eq_true, beq_iff_eq, decide_eq_true_eq] at hregion
  exact hregion.resolve_right (by omega)

/-- What initialisation lists is what the memory may list (R40, R70, R77). -/
theorem cellOk_initialMemory (hcover : busMapCovers c.busMap = true) (hworks : busMapWorks c = true)
    {images : List (List Byte)} (hcount : images.length = 8) (hsize : ∀ i ∈ images, i.length = 1024)
    {preloads : List (Nat × List Byte)} (hfit : ∀ q ∈ preloads, preloadFits c.busMap q = true) :
    ∀ p ∈ initialMemory c images preloads, CellOk c p := by
  have hpreloads : ∀ p ∈ preloads.foldl (loadRange c) [], CellOk c p := by
    refine List.foldlRecOn preloads (loadRange c) (motive := fun m => ∀ p ∈ m, CellOk c p) (by simp) ?_
    exact fun m hm q hq => cellOk_loadRange hdisjoint hspace hm (hfit q hq)
  intro p hp
  rcases Cells.mem_load hp with hp | ⟨hle, hlt, -⟩
  · exact hpreloads p hp
  · rw [length_flatten_of_length hsize, hcount] at hlt
    exact ⟨by omega, .inr (.inl (owner_rom_of_le hdisjoint hspace hcover hworks hle (by omega)))⟩

end

/-- Image `k` stands at bus 0x2000 + k · 0x400 (R85). -/
theorem initialMemory_get_image (c : Config) {images : List (List Byte)}
    (hcount : images.length = 8) (hsize : ∀ i ∈ images, i.length = 1024)
    (preloads : List (Nat × List Byte)) {k n : Nat} (hk : k < 8) (hn : n < 1024) :
    Cells.get (initialMemory c images preloads) (0x2000 + k * 0x400 + n) =
      (images.getD k []).getD n 0x00#8 := by
  have hwf : Memory.wf (preloads.foldl (loadRange c) []) = true :=
    List.foldlRecOn preloads (loadRange c) (motive := fun m => Memory.wf m = true) Cells.wf_nil
      fun _ hm q _ => Memory.wf_loadRange hm q
  have hplace : 0x2000 + k * 0x400 + n - 0x2000 = k * 1024 + n := by omega
  have hlen : (images.getD k []).length = 1024 := by
    rw [List.getD_eq_getElem _ _ (hcount ▸ hk)]
    exact hsize _ (List.getElem_mem _)
  rw [initialMemory, loadImages, Cells.get_load hwf, if_pos (by omega), hplace, List.getD_eq_getElem?_getD,
    getElem?_flatten_of_length hsize k hn, List.getElem?_eq_getElem (hlen ▸ hn), Option.getD_some]
  exact (List.getD_eq_getElem _ _ (by rw [hlen]; exact hn)).symm

/-! ### The machine started -/

theorem Vic.ok_initial {c : Config} {p : Profile} (hp : p.valid = true) : (Vic.initial c).Ok c p := by
  obtain ⟨-, hw, hh, -⟩ := of_decide_eq_true hp
  have hblank : Frame.blank.ok p := ⟨Cells.wf_nil, fun q hq => by cases hq⟩
  exact ⟨rfl, (Nat.zero_lt_succ 7).trans_le hw, (Nat.zero_lt_succ 0).trans_le hh, Nat.zero_lt_succ 15, rfl,
    rfl, fun k => by cases k; exacts [hblank, hblank], rfl⟩

/-- Settles O35: the checks passed give the memory its cells, and the reset gives the processor. -/
theorem startedMachineMeetsTheInvariant : Obligations.StartedMachineMeetsTheInvariant := by
  intro c p images preloads on s hs
  have houtside := fun a => State.cell_of_startMachine_outside hs (a := a)
  obtain ⟨hnone, rfl⟩ := of_startMachine_next hs
  obtain ⟨hcount, hsized, hdisjoint, ⟨hspace, hcover⟩, ⟨hworks, -⟩, hfits, hvalid⟩ :=
    configProblem_eq_none_iff.1 hnone
  have hcount : images.length = 8 := of_decide_eq_true hcount
  have hsize : ∀ i ∈ images, i.length = 1024 := fun i => length_eq_of_romImagesSized hsized
  set u := unresetState c p (initialMemory c images preloads) on
  have hcontrol := u.cpuReset_control
  have hcfg : u.cpuReset.cfg = c := u.cpuReset_cfg
  have hprofile : u.cpuReset.profile = p := u.cpuReset_profile
  have hmem : u.cpuReset.mem = initialMemory c images preloads := u.cpuReset_mem
  have hvic : u.cpuReset.vic = Vic.initial c := by simp [u, unresetState]
  have hpia : u.cpuReset.pia = Pia.reset := by simp [u, unresetState]
  have hcyc : u.cpuReset.cpu.micro.cyc = 0 := congrArg Control.cyc hcontrol
  have hseq : u.cpuReset.cpu.micro.seq = if c.resetCycles = .none then .instr else .reset :=
    congrArg Control.seq hcontrol
  have hfault : u.cpuReset.cpu.fault = none := congrArg Control.fault hcontrol
  have hquiet : u.cpuReset.cpu.Quiet := ⟨congrArg Control.nmiLine hcontrol,
    congrArg Control.irqLine hcontrol, congrArg Control.nmiPending hcontrol⟩
  have hnoInterrupt : ∀ k, u.cpuReset.cpu.micro.seq ≠ .interrupt k := by
    intro k; rw [hseq]; split <;> simp
  refine ⟨⟨?valid, ?mem, ⟨.inl hcyc, hnoInterrupt .nmi, hnoInterrupt .irq, hquiet⟩, ?vic, ?pia⟩, hcfg,
    hprofile, hfault, hcyc, ?starts, ?portA, ?portB, ?sig, ?paused, ?ram, ?images, ?none, ?seven⟩
  case valid => rw [hprofile]; exact hvalid
  case mem =>
    rw [State.memOk, hcfg, hmem]
    exact ⟨Memory.wf_initialMemory .., cellOk_initialMemory hdisjoint hspace hcover hworks hcount hsize
      (List.all_eq_true.1 hfits)⟩
  case vic => rw [State.vicOk_iff, hcfg, hprofile, hvic]; exact Vic.ok_initial hvalid
  case pia => rw [State.piaOk, hpia]; exact ⟨rfl, rfl⟩
  case starts => rw [hvic]; exact Vic.startsWith_initial c
  case portA => rw [hpia]; rfl
  case portB => rw [hpia]; rfl
  case sig => simp [u, unresetState]
  case paused => simp [u, unresetState]
  case ram =>
    rintro a (hram | hnibble) hout
    · exact houtside a (by simp [hram]) (by simp [hram]) hout
    · exact houtside a (by simp [hnibble]) (by simp [hnibble]) hout
  case images =>
    intro k n hk hn
    have hbus : busAddr (BitVec.ofNat 16 (0x2000 + k * 0x400 + n)) = 0x2000 + k * 0x400 + n := by
      rw [busAddr_eq_mod, BitVec.toNat_ofNat]; omega
    rw [State.cell, hbus, hmem]
    exact initialMemory_get_image c hcount hsize preloads hk hn
  case none =>
    intro hnone
    rw [hnone, if_pos rfl] at hseq
    refine ⟨⟨hfault, hcyc, by rw [Cpu.nextSeq_of_quiet hquiet, hseq]; rfl⟩, ?_⟩
    have hcpu : u.cpuReset = u.withCpu u.cpuReset.cpu := by
      unfold State.cpuReset; split <;> rfl
    have hvector : u.cpuReset.resetVector = u.resetVector := by
      rw [hcpu]; rfl
    rw [hvector]
    unfold State.cpuReset
    rw [show u.cfg.resetCycles = .none from hnone]
    rfl
  case seven => intro hseven; rw [hseq, hseven]; rfl

end Sys2Proof.Machine
end
